-- ==== Sys2Proof/Word.lean ====
section
/-! DEFINITION. The words of the model: bytes, timestamps, the two link ports, and the time that passes between two commands.
Only types stand here; all arithmetic on them is in Sys2Proof/Machine/Arith.lean. -/

namespace Sys2Proof

/-- A byte on a wire: of an Ethernet frame, of an SPI transaction, of the configuration record. -/
abbrev Byte := BitVec 8

/-- The number of readings there are: 2^40 seconds of 4 x 10^9 quarter-nanoseconds (R2). -/
abbrev timestampCount : Nat := 4398046511104000000000

/-- A timestamp as the one number of R2: seconds x 4x10^9 + nanoseconds x 4 + quarter. -/
structure Timestamp where
  qns : Fin timestampCount
  deriving DecidableEq, Repr

/-- The timestamp 0.000000000'0. -/
def Timestamp.zero : Timestamp := ⟨⟨0, by decide⟩⟩

/-- The two link ports (R24). -/
inductive PortId where
  | a
  | b
  deriving DecidableEq, Repr

/-- One value for each link port. -/
structure Pair (α : Type) where
  a : α
  b : α
  deriving DecidableEq, Repr

/-- The time that passes between the command before and this one, in cycles of the 100 MHz main oscillator (R3)
and of the nominal 1 MHz monitor oscillator (R17). The two oscillators are independent. -/
structure Elapsed where
  main    : Nat
  monitor : Nat
  deriving DecidableEq, Repr

end Sys2Proof
end

