-- ==== Sys2Proof/Config.lean ====
section
/-! DEFINITION. What the part fixes for good (the limits and counts its rules name) and the free values: constants with no
body, about which nothing can be proved but what holds of every value. -/

namespace Sys2Proof.Config

/-- Monitor cycles in a gate (R18). -/
abbrev gateCycles : Nat := 1024
/-- The gate count saturates here (R18). -/
abbrev gateCountMax : Nat := 262143
/-- The least gate count that passes (R18). -/
abbrev gatePassMin : Nat := 61440
/-- The greatest gate count that passes (R18). -/
abbrev gatePassMax : Nat := 163840
/-- Monitor cycles in a monitor second (R17). -/
abbrev monitorSecond : Nat := 1000000
/-- Quarter-nanoseconds in a second. -/
abbrev qnsPerSecond : Nat := 4000000000
/-- Quarter-nanoseconds in a millisecond. -/
abbrev qnsPerMs : Nat := 4000000
/-- Quarter-nanoseconds in a microsecond. -/
abbrev qnsPerUs : Nat := 4000
/-- Quarter-nanoseconds by which one main-oscillator cycle advances the reading before corrections (R3). -/
abbrev qnsPerCycle : Nat := 40
/-- The residues of R2 and R10 are held as whole numbers of 10^-12 qns, the unit the rates of R3 give. -/
abbrev residueUnit : Nat := 1000000000000
/-- The bound of the rate adjustment, in ru (R8). -/
abbrev rateLimit : Int := 100000000
/-- The bound of an offset estimate outside LISTEN, in qns (R55). -/
abbrev estimateBound : Int := 4194304
/-- The greatest accuracy estimate (Table 0-1). -/
abbrev estimateMax : Nat := 2147483647
/-- 16-bit counters saturate here (R26, R66). -/
abbrev counterMax : Nat := 65535

/-- FREE VALUE (log entry 14). What a signed 64-bit quantity holds where the exact result lies outside the 64-bit range
and the spec states no result; a function of the exact result. -/
opaque overflow64 : Int → BitVec 64

/-- FREE VALUE (log entry 2). Which oscillators complete a cycle in the k-th idle step: the main one, the monitor one. -/
opaque idleCycle : Nat → Bool × Bool

end Sys2Proof.Config
end

