-- ==== Sys2Proof/Syntax.lean ====
section
/-! DEFINITION. The commands: one constructor for each row of spec/opcode_table.json, in the table's order. Every command
carries the time that has passed since the command before it (log entry 1); the other operands are what the outside world
brings with it (a pin's level, a frame's bytes, the argument bytes of a transaction). -/

namespace Sys2Proof

/-- An event that falls inside the argument window of a transaction which turns out to be malformed: the window holds it back,
and it is taken at the report as though no command had arrived, with its own instant's stamp (R168, R169). Each carries the
time since the event before it and its own operands, as the command of the same name. -/
inductive HeldEvent where
  /-- STRAP_SAMPLE (R21). -/
  | strapSample (e : Elapsed) (straps : BitVec 4)
  /-- GATE_END (R18). -/
  | gateEnd (e : Elapsed)
  /-- MONITOR_TOP (R144). -/
  | monitorTop (e : Elapsed)
  /-- LINK_DROP (R25). -/
  | linkDrop (e : Elapsed) (port : PortId) (receiving : Bool)
  /-- LINK_UP (R25). -/
  | linkUp (e : Elapsed) (port : PortId)
  /-- TRANSMIT_INSTANT (R31). -/
  | transmitInstant (e : Elapsed)
  /-- TICK_EGRESS (R32). -/
  | tickEgress (e : Elapsed) (port : PortId)
  /-- TICK_TX_COMPLETE (R36). -/
  | tickTxComplete (e : Elapsed) (port : PortId)
  /-- FRAME_RECEIVE (R38). -/
  | frameReceive (e : Elapsed) (port : PortId) (bytes : List Byte)
  /-- ROUND_CLOSE (R70). -/
  | roundClose (e : Elapsed)
  /-- ROUND_COMPLETION (R72). -/
  | roundCompletion (e : Elapsed)
  /-- SLEW_END (R11). -/
  | slewEnd (e : Elapsed)
  /-- REF_PULSE (R116). -/
  | refPulse (e : Elapsed)
  /-- MISS_INSTANT (R119). -/
  | missInstant (e : Elapsed)
  /-- ANCHOR_TIME_EXPIRY (R123). -/
  | anchorTimeExpiry (e : Elapsed)
  /-- TOP_OF_SECOND (R133). -/
  | topOfSecond (e : Elapsed)
  /-- HALF_SECOND (R149). -/
  | halfSecond (e : Elapsed)
  /-- PULSE_END (R135). -/
  | pulseEnd (e : Elapsed) (out : Fin 4)
  /-- TRAIN_EDGE (R136). -/
  | trainEdge (e : Elapsed) (out : Fin 4)
  /-- LEAP_GUARD_EXPIRY (R125). -/
  | leapGuardExpiry (e : Elapsed)
  /-- RAW_CHANGE (R156). -/
  | rawChange (e : Elapsed) (input : Fin 8) (level : Bool)
  /-- FILTERED_EDGE (R156). -/
  | filteredEdge (e : Elapsed) (input : Fin 8)
  deriving DecidableEq, Repr

/-- The time up to the report of a malformed transaction (R169): the events that its argument window held back, in order of
time, and the time that passes after the last of them. -/
structure Window where
  held : List HeldEvent
  rest : Elapsed
  deriving DecidableEq, Repr

/-- The part's commands and events. Each is taken whole. -/
inductive Instr where
  /-- SUPPLY_RESET (R20): the supply monitor resets the part and releases it; `straps` is what the strap pins read then. -/
  | supplyReset (e : Elapsed) (straps : BitVec 4)
  /-- RESET_PIN_ASSERT (R131). -/
  | resetPinAssert (e : Elapsed)
  /-- RESET_PIN_RELEASE (R20); `straps` is what the strap pins read at the first monitor cycle of warm-up. -/
  | resetPinRelease (e : Elapsed) (straps : BitVec 4)
  /-- COMMAND_RESET (R20, R170): chip select rises at the end of a transaction. -/
  | commandReset (e : Elapsed) (straps : BitVec 4)
  /-- STRAP_SAMPLE (R21): the second sample of warm-up. -/
  | strapSample (e : Elapsed) (straps : BitVec 4)
  /-- GATE_END (R18). -/
  | gateEnd (e : Elapsed)
  /-- MONITOR_TOP (R144). -/
  | monitorTop (e : Elapsed)
  /-- LINK_DROP (R25): a PHY status line falls; `receiving` says that a frame was partly in. -/
  | linkDrop (e : Elapsed) (port : PortId) (receiving : Bool)
  /-- LINK_UP (R25): a PHY status line rises. -/
  | linkUp (e : Elapsed) (port : PortId)
  /-- TRANSMIT_INSTANT (R31). -/
  | transmitInstant (e : Elapsed)
  /-- TICK_EGRESS (R32): the start-of-frame delimiter crosses the MII outward. -/
  | tickEgress (e : Elapsed) (port : PortId)
  /-- TICK_TX_COMPLETE (R36): the last byte of the tick has left. -/
  | tickTxComplete (e : Elapsed) (port : PortId)
  /-- FRAME_RECEIVE (R38): a whole frame, from the destination address to the frame check sequence. -/
  | frameReceive (e : Elapsed) (port : PortId) (bytes : List Byte)
  /-- ROUND_CLOSE (R70). -/
  | roundClose (e : Elapsed)
  /-- ROUND_COMPLETION (R72). -/
  | roundCompletion (e : Elapsed)
  /-- SLEW_END (R11). -/
  | slewEnd (e : Elapsed)
  /-- REF_PULSE (R116): a rising edge on REF. -/
  | refPulse (e : Elapsed)
  /-- MISS_INSTANT (R119). -/
  | missInstant (e : Elapsed)
  /-- ANCHOR_TIME_EXPIRY (R123). -/
  | anchorTimeExpiry (e : Elapsed)
  /-- TOP_OF_SECOND (R133). -/
  | topOfSecond (e : Elapsed)
  /-- HALF_SECOND (R149). -/
  | halfSecond (e : Elapsed)
  /-- PULSE_END (R135) on output OUT`out`. -/
  | pulseEnd (e : Elapsed) (out : Fin 4)
  /-- TRAIN_EDGE (R136) on output OUT`out`. -/
  | trainEdge (e : Elapsed) (out : Fin 4)
  /-- LEAP_GUARD_EXPIRY (R125). -/
  | leapGuardExpiry (e : Elapsed)
  /-- RAW_CHANGE (R156): the line of event input EV`input` takes `level`. -/
  | rawChange (e : Elapsed) (input : Fin 8) (level : Bool)
  /-- FILTERED_EDGE (R156): the line of EV`input` has held its new level for the filter time. -/
  | filteredEdge (e : Elapsed) (input : Fin 8)
  /-- READ_TIME, code 01h (R16). -/
  | readTime (e : Elapsed)
  /-- READ_STATUS, code 02h (R171). -/
  | readStatus (e : Elapsed)
  /-- READ_ROUND, code 03h (R93). -/
  | readRound (e : Elapsed)
  /-- READ_PEER, code 04h (R67). -/
  | readPeer (e : Elapsed) (id : Byte)
  /-- READ_CAPTURE, code 05h (R162). -/
  | readCapture (e : Elapsed)
  /-- LOAD_CONFIG, code 10h (R173): the argument bytes, which a well-formed command has 86 of. -/
  | loadConfig (e : Elapsed) (record : List Byte)
  /-- START, code 11h (R174). -/
  | start (e : Elapsed)
  /-- RESTART, code 12h (R170). -/
  | restart (e : Elapsed)
  /-- CLEAR, code 13h (R167). -/
  | clear (e : Elapsed) (conditions : BitVec 32) (slots : BitVec 16)
  /-- ANCHOR_TIME, code 14h (R123). -/
  | anchorTime (e : Elapsed) (seconds : BitVec 40) (utcOffset : BitVec 16) (flags : Byte)
  /-- UNKNOWN_COMMAND (R169): a command code that is not in Table 10-2. It carries, as the two below, the time up to its
  report with what its argument window held back. -/
  | unknownCommand (e : Window) (code : Byte)
  /-- TRANSACTION_CUT_SHORT (R169): chip select rises after the whole bytes `sent` only. -/
  | transactionCutShort (e : Window) (sent : List Byte)
  /-- ARGUMENT_WINDOW_OVERRUN (R169): 1 ms has passed and only the whole bytes `sent` have come. -/
  | argumentWindowOverrun (e : Window) (sent : List Byte)
  deriving DecidableEq, Repr

/-- The command of the opcode table that a held back event is. -/
def HeldEvent.toInstr : HeldEvent → Instr
  | .strapSample e straps => .strapSample e straps
  | .gateEnd e => .gateEnd e
  | .monitorTop e => .monitorTop e
  | .linkDrop e port receiving => .linkDrop e port receiving
  | .linkUp e port => .linkUp e port
  | .transmitInstant e => .transmitInstant e
  | .tickEgress e port => .tickEgress e port
  | .tickTxComplete e port => .tickTxComplete e port
  | .frameReceive e port bytes => .frameReceive e port bytes
  | .roundClose e => .roundClose e
  | .roundCompletion e => .roundCompletion e
  | .slewEnd e => .slewEnd e
  | .refPulse e => .refPulse e
  | .missInstant e => .missInstant e
  | .anchorTimeExpiry e => .anchorTimeExpiry e
  | .topOfSecond e => .topOfSecond e
  | .halfSecond e => .halfSecond e
  | .pulseEnd e out => .pulseEnd e out
  | .trainEdge e out => .trainEdge e out
  | .leapGuardExpiry e => .leapGuardExpiry e
  | .rawChange e input level => .rawChange e input level
  | .filteredEdge e input => .filteredEdge e input

end Sys2Proof
end

