-- ==== Sys2Proof/Machine/State.lean ====
section
/-! DEFINITION. The state of the part, block by block, as plain data, and its value right after a power-on reset. -/

namespace Sys2Proof.Machine

/-- The model never stops with a fault: the part has no behaviour that stops it for good (its FAULT is a node state, R22). -/
inductive Fault where
  deriving DecidableEq, Repr

/-- Why a command has no meaning. -/
inductive Refusal where
  /-- Raised by `exec` alone, for a row of the table that has no meaning yet. Safe: nothing is claimed of it. No row is
  left so. -/
  | notModelled (mnemonic : String)
  deriving DecidableEq, Repr

/-! ## Named values -/

/-- Node states, in the order of Table 5-1. -/
inductive NodeState where
  | warmup | config | listen | acquire | track | holdover | anchored | fault
  deriving DecidableEq, Repr

/-- The sender states a tick can carry (Table 2-3). -/
inductive SenderState where
  | listen | acquire | track | holdover | anchored
  deriving DecidableEq, Repr

/-- Reset causes (R20). -/
inductive ResetCause where
  | powerOn | pin | restart
  deriving DecidableEq, Repr

/-- Validity of the strap id (R171, R21). -/
inductive StrapValidity where
  | notSampled | valid | invalid
  deriving DecidableEq, Repr

/-- REF states (Table 6-1). -/
inductive RefState where
  | absent | qualifying | valid | distrusted
  deriving DecidableEq, Repr

/-- Slot liveness (Table 3-1). -/
inductive Liveness where
  | vacant | heard | active | silent
  deriving DecidableEq, Repr

/-- What became of a copy's delay sample (Table 3-2). -/
inductive DelayOutcome where
  | added | clamped | noEcho | stepped | missing | invalidated | overMax
  deriving DecidableEq, Repr

/-- How a copy was attributed to its round (Table 3-2). -/
inductive Attribution where
  | named | nextClose
  deriving DecidableEq, Repr

/-- Steering sources (Table 4-4). -/
inductive Source where
  | ensemble | anchors | cold | ref | none
  deriving DecidableEq, Repr

/-- The set used for a round (Table 4-6): S, C, S_p or none. -/
inductive SetUsed where
  | settled | cold | peer | none
  deriving DecidableEq, Repr

/-- The outcome of an anchored target (Table 4-6). -/
inductive TargetOutcome where
  | accepted | split
  deriving DecidableEq, Repr

/-- The action of a steering order, with its amount in qns (R9). -/
inductive Action where
  | slew (amount : Int)
  | step (amount : Int)
  | hold
  deriving DecidableEq, Repr

/-- Output modes (Table 7-1). -/
inductive OutMode where
  | off | pulse | train | lamp | code
  deriving DecidableEq, Repr

/-- Gate phases of an unpaired output (R133). -/
inductive GatePhase where
  | muted | armed | running
  deriving DecidableEq, Repr

/-- Pair phases (R138). -/
inductive PairPhase where
  | idle | armed | lead | both | closing
  deriving DecidableEq, Repr

/-- Symbols of the time code (Table 8-1). -/
inductive Symbol where
  | zero | one | mark
  deriving DecidableEq, Repr

/-- Edge settings of an event input (R155). -/
inductive EdgeSetting where
  | none | rise | fall | both
  deriving DecidableEq, Repr

/-- A filtered edge (R156). -/
inductive EdgeKind where
  | rise | fall
  deriving DecidableEq, Repr

/-- The two input groups (R155). -/
inductive GroupId where
  | g0 | g1
  deriving DecidableEq, Repr

/-- Arm states of a group (R158). -/
inductive ArmState where
  | armed | disarmed
  deriving DecidableEq, Repr

/-- The sixteen conditions, in the bit order of Table 10-1. -/
inductive Condition where
  | starved | clamped | stepped | split | portSkew | late | badCheck | idClash
  | link | oscRange | refLost | refConflict | captureLoss | underrun | suspect | command
  deriving DecidableEq, Repr

/-- The sixteen counters of a link port, in the order of Table 2-2. -/
inductive PortCounter where
  | txSent | txLost | linkDrops | rxError | rxOther | rxFormat | rxEnsemble | rxForeign
  | rxClash | rxBadCheck | rxLate | rxEarly | rxMisnumbered | rxDuplicate | rxCrossed | rxAccepted
  deriving DecidableEq, Repr

/-- The ten counters of a slot, in the order of Table 3-6. -/
inductive SlotCounter where
  | acceptedA | acceptedB | late | early | duplicate | badCheck | discarded | negative | congested | outOfRange
  deriving DecidableEq, Repr

/-! ## The configuration record (Table 10-4) -/

/-- The settings of one output (Table 7-1). -/
structure OutSetting where
  mode    : OutMode
  pairing : Bool
  floor   : Nat
  rate    : BitVec 4
  width   : Nat
  deriving DecidableEq, Repr

/-- The settings of one event input (R155). -/
structure EvSetting where
  edge  : EdgeSetting
  group : Option GroupId
  deriving DecidableEq, Repr

/-- The configuration record as held, after clamping (R172, R173). -/
structure ConfigRecord where
  group       : BitVec 48
  typeCode    : BitVec 16
  ensemble    : Byte
  nodes       : Nat
  tolerance   : Nat
  roundCode   : BitVec 2
  closeCode   : BitVec 2
  refEnable   : Bool
  anchorClass : BitVec 3
  trackGain   : Nat
  acquireGain : Nat
  glitch      : Nat
  slewLimit   : Nat
  stepThreshold : Nat
  band        : Nat
  splitBound  : Nat
  portSkew    : Nat
  maxDelay    : Nat
  congestion  : Nat
  growth      : Nat
  k0          : BitVec 32
  k1          : BitVec 32
  k2          : BitVec 32
  k3          : BitVec 32
  masks       : BitVec 16
  /-- Envelope sets in the order WARMUP, CONFIG, ... FAULT; bit 3 is 8 Hz, bit 0 is 1 Hz. -/
  lamp        : Vector (BitVec 4) 8
  outs        : Vector OutSetting 4
  inputs      : Vector EvSetting 8
  deriving DecidableEq, Repr

/-! ## Tick frames (Chapter 2) -/

/-- A timestamp as a tick carries it (Table 2-3, bytes 9 to 17). -/
structure WireStamp where
  seconds : BitVec 40
  nanos   : BitVec 30
  quarter : BitVec 2
  deriving DecidableEq, Repr

/-- An echo entry (Table 2-3). -/
structure Echo where
  peer    : BitVec 4
  round16 : BitVec 4
  nanos   : BitVec 30
  quarter : BitVec 2
  seconds : BitVec 8
  deriving DecidableEq, Repr

/-- The status fields of a tick that a lane carries on (R58). The UTC offset is as sent, in two's complement. -/
structure PeerStatus where
  state         : SenderState
  anchored      : Bool
  anchorClass   : BitVec 3
  accuracyClass : BitVec 4
  epochKnown    : Bool
  utcOffset     : BitVec 16
  leapPending   : Bool
  leapDeletion  : Bool
  deriving DecidableEq, Repr

/-- A tick but for its check word (Table 2-3). -/
structure Tick where
  sender   : BitVec 4
  ensemble : Byte
  period   : BitVec 2
  status   : PeerStatus
  stepped  : Bool
  port     : PortId
  echoes   : List Echo
  round    : BitVec 32
  tx       : WireStamp
  deriving DecidableEq, Repr

/-- An entry of the own transmit history (R36). -/
structure HistoryEntry where
  round : BitVec 32
  tx    : Timestamp
  step  : BitVec 8
  valid : Bool
  deriving DecidableEq, Repr

/-- What a port took at egress (R32): the stamp and the step count. -/
structure Egress where
  stamp : Timestamp
  step  : BitVec 8
  deriving DecidableEq, Repr

/-- A tick transmission in progress (R31, R32): the tick, the step counts at the ingress stamps it echoes, what egress
took once it has come, and the whole frame from then on. -/
structure Transmission where
  tick      : Tick
  echoSteps : List (BitVec 8)
  egress    : Option Egress
  frame     : List Byte
  deriving DecidableEq, Repr

/-- One link port (R25, R26, R33, R36). -/
structure LinkPort where
  up         : Bool
  counters   : Vector Nat 16
  history    : List HistoryEntry
  egressStep : BitVec 8
  tx         : Option Transmission
  /-- The last whole frame that left on the MII. -/
  sent       : List Byte
  deriving DecidableEq, Repr

/-! ## The Peer Table (Chapter 3) -/

/-- A delay sample (R52). `closed` says that a close has come since it joined, so that the next completion gives it age 0
(R53). -/
structure Sample where
  round  : BitVec 32
  value  : Nat
  age    : Option Nat
  closed : Bool
  deriving DecidableEq, Repr

/-- A copy record (Table 3-2). `bounded` says that its estimate was made absent by the offset bound (R55, R56, R65). -/
structure Copy where
  attributed  : BitVec 32
  kind        : Attribution
  roundField  : BitVec 32
  ingress     : Timestamp
  ingressStep : BitVec 8
  tx          : WireStamp
  status      : PeerStatus
  stepped     : Bool
  ownEcho     : Option Echo
  outcome     : DelayOutcome
  checked     : Bool
  congested   : Bool
  estimate    : Option Int
  bounded     : Bool
  deriving DecidableEq, Repr

/-- A previous-round ingress stamp (Table 3-1). -/
structure PrevStamp where
  stamp : Timestamp
  round : BitVec 32
  step  : BitVec 8
  deriving DecidableEq, Repr

/-- A lane that is not void (R58). -/
structure Lane where
  value  : Int
  port   : PortId
  status : PeerStatus
  deriving DecidableEq, Repr

/-- A verdict (R64, R65). -/
structure Verdict where
  ahead   : Bool
  behind  : Bool
  level   : Bool
  summary : Bool
  deriving DecidableEq, Repr

/-- A slot of the Peer Table (Table 3-1). The filtered delays are the least values of the windows and are not held
twice. -/
structure Slot where
  liveness   : Liveness
  suspect    : Bool
  windows    : Pair (List Sample)
  current    : Pair (Option Copy)
  round      : Pair (Option Copy)
  prev       : Pair (Option PrevStamp)
  lane       : Option Lane
  lastLane   : Option Lane
  verdict    : Verdict
  misses     : Nat
  trims      : Nat
  agreements : Nat
  counters   : Vector Nat 10
  deriving DecidableEq, Repr

/-- The published table (R67) with the round number published with it. -/
structure Published where
  round : Option (BitVec 32)
  slots : Vector Slot 16
  deriving DecidableEq, Repr

/-! ## The Round Engine (Chapter 4) -/

/-- A UTC offset with the leap flags. -/
structure UtcValues where
  offset   : Int
  pending  : Bool
  deletion : Bool
  deriving DecidableEq, Repr

/-- What the Round Engine took at the close in flight (R70). -/
structure Flight where
  round       : BitVec 32
  slots       : Vector Slot 16
  nodeState   : NodeState
  epochKnown  : Bool
  utc         : UtcValues
  refSelected : Bool
  refOffset   : Option Int
  stepCount   : BitVec 8
  overtaken   : Bool
  deriving DecidableEq, Repr

/-- An interval of qns, both ends in it. -/
structure Range where
  low  : Int
  high : Int
  deriving DecidableEq, Repr

/-- The peer range of a round (R86). -/
inductive PeerRange where
  | absent
  | starved
  | kept (range : Range)
  deriving DecidableEq, Repr

/-- The anchored subset as the summary shows it (R83). -/
structure AnchoredSubset where
  bestClass : BitVec 3
  size      : Nat
  fa        : Nat
  trimmed   : List (Fin 16)
  kept      : Range
  deriving DecidableEq, Repr

/-- A round summary (Table 4-6). -/
structure Summary where
  round         : Option (BitVec 32)
  stateAtClose  : NodeState
  stateAfter    : NodeState
  source        : Source
  overtaken     : Bool
  quiet         : Nat
  sizeS         : Nat
  sizeC         : Option Nat
  sizeSp        : Option Nat
  setUsed       : SetUsed
  size          : Nat
  trimmed       : List (Fin 16)
  kept          : Option Range
  aggregate     : Option Int
  anchored      : Option AnchoredSubset
  target        : Option (Int × TargetOutcome)
  peerRange     : PeerRange
  refOffset     : Option Int
  correction    : Option Int
  offer         : Option (Int × Nat)
  action        : Action
  rateStep      : Option Int
  rateAfter     : Int
  roundEstimate : Option Nat
  estimate      : Nat
  accuracyClass : Nat
  stepCount     : BitVec 8
  deriving DecidableEq, Repr

/-- The Round Engine (R74, R70, R92). -/
structure RoundEngine where
  quiet     : Nat
  flight    : Option Flight
  working   : Option Summary
  published : Summary
  deriving DecidableEq, Repr

/-! ## The Node Clock and the Oscillator Monitor (Chapter 1) -/

/-- The slew record (R10). The residue is in 10^-12 qns. -/
structure Slew where
  amount    : Int
  delivered : Int
  residue   : Int
  term      : Int
  finish    : Timestamp
  deriving DecidableEq, Repr

/-- The readings named for the regular instants (R7): the next top of second, half second, close and transmit instant. -/
structure Named where
  top      : Option Timestamp
  half     : Option Timestamp
  close    : Option Timestamp
  transmit : Option Timestamp
  deriving DecidableEq, Repr

/-- The Node Clock (R2, R8, R10, R13). The residue is in 10^-12 qns. -/
structure Clock where
  reading   : Timestamp
  residue   : Int
  rate      : Int
  slew      : Option Slew
  stepCount : BitVec 8
  named     : Named
  deriving DecidableEq, Repr

/-- The Oscillator Monitor (R17 to R21). `gatePosition` is the monitor cycles counted in the gate; `topDue` says that the
phase has returned to 0 and the monitor top is still to be taken. -/
structure Monitor where
  phase        : Nat
  topDue       : Bool
  warmCount    : Nat
  gatePosition : Nat
  gateCount    : Nat
  passes       : Nat
  cause        : ResetCause
  firstStrap   : BitVec 4
  deriving DecidableEq, Repr

/-! ## The Steering Controller (Chapter 5) and the Reference Unit (Chapter 6) -/

/-- The Steering Controller's record (Tables 5-1 and 5-2, R125). -/
structure Steering where
  nodeState      : NodeState
  refSelected    : Bool
  epochKnown     : Bool
  utc            : UtcValues
  estimate       : Nat
  holdoverEntry  : Nat
  accuracyClass  : Nat
  listenCount    : Nat
  agreementCount : Nat
  excessCount    : Nat
  holdoverAge    : Nat
  atLimitCount   : Nat
  hostTimescale  : Bool
  leapGuard      : Option Timestamp
  deriving DecidableEq, Repr

/-- A pending anchor time (R123). -/
structure AnchorTime where
  seconds : BitVec 40
  utc     : UtcValues
  expiry  : Timestamp
  deriving DecidableEq, Repr

/-- The Reference Unit's record (Table 6-1). -/
structure RefUnit where
  state        : RefState
  qualCount    : Nat
  lastPulse    : Option Timestamp
  correction   : Int
  missCount    : Nat
  lastOffset   : Option Int
  fresh        : Bool
  outside      : Nat
  inside       : Nat
  pendingTime  : Option AnchorTime
  deriving DecidableEq, Repr

/-! ## The Output Unit (Chapter 7) and the Code Composer (Chapter 8) -/

/-- A train edge named to the Node Clock (R136): the rise or the fall of pulse `index`, at a reading. -/
structure TrainEdge where
  reading : Timestamp
  rising  : Bool
  index   : Nat
  deriving DecidableEq, Repr

/-- One output channel. `high` is the level of a pulse or a train; `tail` is the reading at which the symbol that a mute
left in progress falls (R153); `dark` holds a lamp low until the next monitor top (R144). -/
structure Channel where
  phase    : GatePhase
  high     : Bool
  pulseEnd : Option Timestamp
  edge     : Option TrainEdge
  tail     : Option Timestamp
  dark     : Bool
  deriving DecidableEq, Repr

/-- A pair (R138). `closingTop` is the top of second at which the closing marker rose (R140). -/
structure PairState where
  phase      : PairPhase
  resume     : Bool
  closingTop : Option Timestamp
  deriving DecidableEq, Repr

/-- The Output Unit: four channels, the pairs OUT0 with OUT1 (`first`) and OUT2 with OUT3 (`second`), the lamp latch and
whether the lamps are timed by the clock (R143, R144). -/
structure OutputUnit where
  channels    : Vector Channel 4
  first       : PairState
  second      : PairState
  lampLatch   : BitVec 4
  clockTiming : Bool
  deriving DecidableEq, Repr

/-- A code frame (R146): the second it describes, the step count at its composition, its 50 symbols. -/
structure CodeFrame where
  second  : BitVec 40
  step    : BitVec 8
  symbols : List Symbol
  deriving DecidableEq, Repr

/-- The Code Composer (R146). -/
structure CodeComposer where
  pendingFrame  : Option CodeFrame
  current       : Option CodeFrame
  referenceStep : BitVec 8
  deriving DecidableEq, Repr

/-! ## The Capture Unit (Chapter 9), the Condition Block and the Command Port (Chapter 10) -/

/-- The snapshot a candidate takes (R156). -/
structure Snapshot where
  stamp         : Timestamp
  step          : BitVec 8
  nodeState     : NodeState
  accuracyClass : Nat
  deriving DecidableEq, Repr

/-- A candidate (R156) with the main-oscillator cycles for which the line has held. -/
structure Candidate where
  snapshot : Snapshot
  held     : Nat
  deriving DecidableEq, Repr

/-- An event input: its filtered level, not held before START (Table 9-4), and its candidate. -/
structure EventInput where
  level     : Option Bool
  candidate : Option Candidate
  deriving DecidableEq, Repr

/-- A capture record (Table 9-2). -/
structure CaptureRecord where
  input    : Fin 8
  edge     : EdgeKind
  snapshot : Snapshot
  loss     : Bool
  deriving DecidableEq, Repr

/-- The Capture Unit (R155 to R162). The arm states are not held before START. -/
structure CaptureUnit where
  inputs      : Vector EventInput 8
  arm0        : Option ArmState
  arm1        : Option ArmState
  fifo        : List CaptureRecord
  overflow    : Nat
  lossPending : Bool
  lastEmpty   : Bool
  underrun    : Bool
  deriving DecidableEq, Repr

/-- The Condition Block (R165). -/
structure ConditionBlock where
  flags : BitVec 16
  fault : Bool
  deriving DecidableEq, Repr

/-- The Command Port (R168 to R175): the record and its lock, the strap id, the bytes shifted out in the last transaction,
and whether an accepted RESTART waits for chip select to rise. -/
structure CommandPort where
  record       : Option ConfigRecord
  locked       : Bool
  strapId      : BitVec 4
  strapValid   : StrapValidity
  dataOut      : List Byte
  restartArmed : Bool
  deriving DecidableEq, Repr

/-- Levels of the input pins: the PHY status lines (high is UP), the event inputs, and whether the reset pin is
asserted. -/
structure Pins where
  link          : Pair Bool
  event         : Vector Bool 8
  resetAsserted : Bool
  deriving DecidableEq, Repr

/-- The whole part, with the queue of the commands that wait, first in first out, and the model's count of idle steps. -/
structure State where
  pending   : List Instr
  idleCount : Nat
  pins      : Pins
  clock     : Clock
  monitor   : Monitor
  ports     : Pair LinkPort
  slots     : Vector Slot 16
  published : Published
  round     : RoundEngine
  steer     : Steering
  ref       : RefUnit
  outs      : OutputUnit
  code      : CodeComposer
  capture   : CaptureUnit
  cond      : ConditionBlock
  port      : CommandPort
  deriving DecidableEq, Repr

/-! ## Values after reset -/

/-- The node clock after a power-on reset (Table 1-3). -/
def Clock.reset : Clock :=
  { reading := Timestamp.zero, residue := 0, rate := 0, slew := none, stepCount := 0#8,
    named := { top := none, half := none, close := none, transmit := none } }

/-- The Oscillator Monitor at the start of warm-up (Table 1-3). -/
def Monitor.reset (cause : ResetCause) (straps : BitVec 4) : Monitor :=
  { phase := 0, topDue := false, warmCount := 0, gatePosition := 0, gateCount := 0, passes := 0, cause := cause,
    firstStrap := straps }

/-- A link port after a reset (Table 2-10). -/
def LinkPort.reset : LinkPort :=
  { up := false, counters := Vector.replicate 16 0, history := [], egressStep := 0#8, tx := none, sent := [] }

/-- A slot after a reset (Table 3-7). -/
def Slot.reset : Slot :=
  { liveness := .vacant, suspect := false, windows := ⟨[], []⟩, current := ⟨none, none⟩, round := ⟨none, none⟩,
    prev := ⟨none, none⟩, lane := none, lastLane := none, verdict := ⟨false, false, false, false⟩,
    misses := 0, trims := 0, agreements := 0, counters := Vector.replicate 10 0 }

/-- The published table after a reset (R69). -/
def Published.reset : Published := { round := none, slots := Vector.replicate 16 Slot.reset }

/-- The published summary after a reset (Table 4-8: sizes 0, all three of Table 4-6), given the rate adjustment the reset
leaves. -/
def Summary.reset (rate : Int) : Summary :=
  { round := none, stateAtClose := .warmup, stateAfter := .warmup, source := .none, overtaken := false, quiet := 0,
    sizeS := 0, sizeC := some 0, sizeSp := some 0, setUsed := .none, size := 0, trimmed := [], kept := none,
    aggregate := none, anchored := none, target := none, peerRange := .absent, refOffset := none, correction := none,
    offer := none, action := .hold, rateStep := none, rateAfter := rate, roundEstimate := none,
    estimate := Config.estimateMax, accuracyClass := 15, stepCount := 0#8 }

/-- The Round Engine after a reset (Table 4-8). -/
def RoundEngine.reset (rate : Int) : RoundEngine :=
  { quiet := 0, flight := none, working := none, published := Summary.reset rate }

/-- The Steering Controller's record after a reset (Tables 5-1 and 5-2, R125). -/
def Steering.reset : Steering :=
  { nodeState := .warmup, refSelected := false, epochKnown := false, utc := ⟨0, false, false⟩,
    estimate := Config.estimateMax, holdoverEntry := Config.estimateMax, accuracyClass := 15,
    listenCount := 0, agreementCount := 0, excessCount := 0, holdoverAge := 0, atLimitCount := 0,
    hostTimescale := false, leapGuard := none }

/-- The Reference Unit's record after a reset (Table 6-1). -/
def RefUnit.reset : RefUnit :=
  { state := .absent, qualCount := 0, lastPulse := none, correction := 0, missCount := 0, lastOffset := none,
    fresh := false, outside := 0, inside := 0, pendingTime := none }

/-- A channel after a reset (Table 7-8). -/
def Channel.reset : Channel :=
  { phase := .muted, high := false, pulseEnd := none, edge := none, tail := none, dark := false }

/-- A pair after a reset (Table 7-8). -/
def PairState.reset : PairState := { phase := .idle, resume := false, closingTop := none }

/-- The Output Unit after a reset (Table 7-8), given the WARMUP set of the lamp table in force. -/
def OutputUnit.reset (latch : BitVec 4) : OutputUnit :=
  { channels := Vector.replicate 4 Channel.reset, first := PairState.reset, second := PairState.reset,
    lampLatch := latch, clockTiming := false }

/-- The Code Composer after a reset (Table 8-5). -/
def CodeComposer.reset : CodeComposer := { pendingFrame := none, current := none, referenceStep := 0#8 }

/-- The Capture Unit after a reset (Table 9-4). -/
def CaptureUnit.reset : CaptureUnit :=
  { inputs := Vector.replicate 8 { level := none, candidate := none }, arm0 := none, arm1 := none, fifo := [],
    overflow := 0, lossPending := false, lastEmpty := false, underrun := false }

/-- The Condition Block after a reset (R165). -/
def ConditionBlock.reset : ConditionBlock := { flags := 0#16, fault := false }

/-- The Command Port after a power-on reset (R175). -/
def CommandPort.reset : CommandPort :=
  { record := none, locked := false, strapId := 0#4, strapValid := .notSampled, dataOut := [], restartArmed := false }

/-- The part right after a power-on reset, at the first monitor cycle of warm-up, with every input pin low. -/
def State.reset : State :=
  { pending := [], idleCount := 0,
    pins := { link := ⟨false, false⟩, event := Vector.replicate 8 false, resetAsserted := false },
    clock := Clock.reset, monitor := Monitor.reset .powerOn 0#4, ports := ⟨LinkPort.reset, LinkPort.reset⟩,
    slots := Vector.replicate 16 Slot.reset, published := Published.reset, round := RoundEngine.reset 0,
    steer := Steering.reset, ref := RefUnit.reset, outs := OutputUnit.reset 8#4, code := CodeComposer.reset,
    capture := CaptureUnit.reset, cond := ConditionBlock.reset, port := CommandPort.reset }

end Sys2Proof.Machine
end

