-- ==== Sys2Proof/Machine/Arith.lean ====
section
/-! DEFINITION. Arithmetic: timestamps and their differences (R2, R4), half-to-even division (R1), sorting and trimming
(R80, R81), big-endian bytes, and operations on the fixed tables of the state. -/

namespace Sys2Proof

/-! ## One value for each port -/

/-- The value of one port. -/
def Pair.get {α : Type} (p : Pair α) : PortId → α
  | .a => p.a
  | .b => p.b

/-- The value of one port replaced. -/
def Pair.set {α : Type} (p : Pair α) (x : α) : PortId → Pair α
  | .a => { p with a := x }
  | .b => { p with b := x }

/-- The value of both ports mapped. -/
def Pair.map {α β : Type} (p : Pair α) (f : α → β) : Pair β := ⟨f p.a, f p.b⟩

/-- The values of both ports, A first. -/
def Pair.toList {α : Type} (p : Pair α) : List α := [p.a, p.b]

end Sys2Proof

namespace Sys2Proof.Machine

/-! ## Fixed tables -/

/-- `f` applied to every entry of a table. -/
def vmap {α β : Type} {n : Nat} (f : α → β) (v : Vector α n) : Vector β n :=
  ⟨⟨v.toList.map f⟩, by simp⟩

/-- `f` applied to every entry of a table, with its index. -/
def vmapIdx {α β : Type} {n : Nat} (f : Fin n → α → β) (v : Vector α n) : Vector β n :=
  ⟨⟨(List.finRange n).map fun i => f i v[i]⟩, by simp⟩

/-- Entry `i` of a table replaced by `f` of itself. -/
def vmodify {α : Type} {n : Nat} (v : Vector α n) (i : Fin n) (f : α → α) : Vector α n :=
  v.set i (f v[i]) i.isLt

/-- A table with the entries `f i`. -/
def vtable {β : Type} (n : Nat) (f : Fin n → β) : Vector β n :=
  ⟨⟨(List.finRange n).map f⟩, by simp⟩

/-! ## Numbers -/

/-- `a / b` rounded half to even (R1). -/
def halfEven (a : Int) (b : Nat) : Int :=
  let q := a / (b : Int)
  let r := a % (b : Int)
  if 2 * r < b then q
  else if (b : Int) < 2 * r then q + 1
  else if q % 2 = 0 then q else q + 1

/-- `a / b` rounded up. -/
def ceilDiv (a b : Nat) : Nat := (a + b - 1) / b

/-- `x` clamped to plus or minus `limit` (About This Manual, 0.5). -/
def clampTo (limit x : Int) : Int :=
  if limit < x then limit else if x < -limit then -limit else x

/-- `x` clamped into `low` to `high`. -/
def clampIn (low high x : Nat) : Nat := if x < low then low else if high < x then high else x

/-- A saturating counter advanced by one. -/
def satSucc (limit x : Nat) : Nat := min limit (x + 1)

/-- The number of binary digits of `n`, 0 for 0 (About This Manual, 0.5). -/
def bitLength (n : Nat) : Nat := if n = 0 then 0 else Nat.log2 n + 1

/-- `x` held at the nearer end of the signed 64-bit range (R4). -/
def saturate64 (x : Int) : Int :=
  if x < -9223372036854775808 then -9223372036854775808
  else if 9223372036854775807 < x then 9223372036854775807 else x

/-- `x` in a signed 64-bit quantity: itself in range, a free value outside it (log entry 14). -/
def int64 (x : Int) : Int :=
  if -9223372036854775808 ≤ x ∧ x ≤ 9223372036854775807 then x else (Config.overflow64 x).toInt

end Sys2Proof.Machine

namespace Sys2Proof

open Machine

/-! ## Timestamps -/

/-- The timestamp that a number of qns names, taken modulo the seconds count (R2, R4). -/
def Timestamp.ofInt (z : Int) : Timestamp :=
  ⟨⟨(z % (timestampCount : Int)).toNat, by
    have h1 := Int.emod_nonneg z (b := (timestampCount : Int)) (by decide)
    have h2 := Int.emod_lt_of_pos z (b := (timestampCount : Int)) (by decide)
    omega⟩⟩

/-- The ensemble seconds of a reading (R2). -/
def Timestamp.seconds (t : Timestamp) : Nat := t.qns.val / Config.qnsPerSecond

/-- The reading's fraction of the second in qns. -/
def Timestamp.fraction (t : Timestamp) : Nat := t.qns.val % Config.qnsPerSecond

/-- The nanoseconds field (R2). -/
def Timestamp.nanos (t : Timestamp) : Nat := t.fraction / 4

/-- The quarter field (R2). -/
def Timestamp.quarter (t : Timestamp) : Nat := t.fraction % 4

/-- A timestamp plus a signed number of qns (R4). -/
def Timestamp.plus (t : Timestamp) (q : Int) : Timestamp := Timestamp.ofInt ((t.qns.val : Int) + q)

/-- The top of the second in which a reading lies. -/
def Timestamp.secondStart (t : Timestamp) : Timestamp := Timestamp.ofInt ((t.seconds * Config.qnsPerSecond : Nat) : Int)

/-- The difference `a - b` of two timestamps in qns: the seconds reduced modulo 2^40, the result saturated to 64 bits
(R4). -/
def Timestamp.diff (a b : Timestamp) : Int :=
  let ds := ((a.seconds : Int) - (b.seconds : Int) + 549755813888) % 1099511627776 - 549755813888
  saturate64 (ds * (Config.qnsPerSecond : Int) + ((a.fraction : Int) - (b.fraction : Int)))

/-- Whether a clock that reads `now` has reached the reading `t` (R7). -/
def Timestamp.reached (now t : Timestamp) : Bool := decide (0 ≤ now.diff t)

end Sys2Proof

namespace Sys2Proof.Machine

/-- The timestamp a tick carries, read as a positional count (R2). -/
def WireStamp.toTimestamp (w : WireStamp) : Timestamp :=
  Timestamp.ofInt ((w.seconds.toNat * Config.qnsPerSecond + w.nanos.toNat * 4 + w.quarter.toNat : Nat) : Int)

/-- A reading as a tick carries it. -/
def WireStamp.ofTimestamp (t : Timestamp) : WireStamp :=
  { seconds := BitVec.ofNat 40 t.seconds, nanos := BitVec.ofNat 30 t.nanos, quarter := BitVec.ofNat 2 t.quarter }

/-! ## Sorting and trimming -/

/-- A lane in a set of the Round Engine: its value, its node's id, and the status of the copy that supplied it, absent for
the self lane (R75). -/
structure SetLane where
  value  : Int
  id     : Fin 16
  status : Option PeerStatus
  deriving DecidableEq, Repr

/-- The order of R80: by value, then by node id. -/
def SetLane.before (x y : SetLane) : Bool :=
  decide (x.value < y.value) || (decide (x.value = y.value) && decide (x.id ≤ y.id))

/-- `x` put into its place in a sorted list. -/
def insertLane (x : SetLane) : List SetLane → List SetLane
  | [] => [x]
  | y :: ys => if x.before y then x :: y :: ys else y :: insertLane x ys

/-- The sorted order of R80. -/
def sortLanes : List SetLane → List SetLane
  | [] => []
  | x :: xs => insertLane x (sortLanes xs)

/-- What remains when the first and last `k` are set aside (R81). -/
def keep {α : Type} (k : Nat) (l : List α) : List α := (l.drop k).take (l.length - 2 * k)

/-- What is set aside when the first and last `k` are (R81). -/
def setAside {α : Type} (k : Nat) (l : List α) : List α := l.take k ++ l.drop (l.length - k)

/-- The mean of the values of a set, half to even (R82). -/
def meanOf (l : List SetLane) : Int := halfEven ((l.map (·.value)).sum) l.length

/-- The interval from the first to the last value of a sorted set (R81), absent for an empty one. -/
def rangeOf (l : List SetLane) : Option Range :=
  match l.head?, l.getLast? with
  | some x, some y => some ⟨x.value, y.value⟩
  | _, _ => none

/-- Ids in ascending order. -/
def sortIds (l : List (Fin 16)) : List (Fin 16) := (List.finRange 16).filter fun i => l.contains i

/-! ## Bytes -/

/-- The low `n` bytes of a number, most significant first; two's complement for a negative one (R168). -/
def beBytes : Nat → Int → List Byte
  | 0, _ => []
  | n + 1, z => BitVec.ofInt 8 (z / (256 ^ n : Nat)) :: beBytes n z

/-- The number that bytes spell, most significant first. -/
def beNat (l : List Byte) : Nat := l.foldl (fun acc b => acc * 256 + b.toNat) 0

/-- Byte `i` of a list, 0 beyond its end. -/
def byteAt (l : List Byte) (i : Nat) : Byte := l.getD i 0#8

/-- The bytes `i` to `i + n - 1` of a list. -/
def bytesAt (l : List Byte) (i n : Nat) : List Byte := (l.drop i).take n

end Sys2Proof.Machine
end

