-- ==== Sys2Proof/Machine/Ops.lean ====
section
/-! DEFINITION. The named operations over the state that every block uses: one update for each field, the configuration in
force, the classes of node states, the counters and condition reports, and the passing of time (R3, R11, R17, R18). -/

namespace Sys2Proof.Machine

/-! ## One update for each field of the state -/

/-- `pending` replaced. -/
def State.setPending (s : State) (x : List Instr) : State := { s with pending := x }

/-- `idleCount` replaced. -/
def State.setIdleCount (s : State) (x : Nat) : State := { s with idleCount := x }

/-- `pins` replaced. -/
def State.setPins (s : State) (x : Pins) : State := { s with pins := x }

/-- `clock` replaced. -/
def State.setClock (s : State) (x : Clock) : State := { s with clock := x }

/-- `monitor` replaced. -/
def State.setMonitor (s : State) (x : Monitor) : State := { s with monitor := x }

/-- `ports` replaced. -/
def State.setPorts (s : State) (x : Pair LinkPort) : State := { s with ports := x }

/-- `slots` replaced. -/
def State.setSlots (s : State) (x : Vector Slot 16) : State := { s with slots := x }

/-- `published` replaced. -/
def State.setPublished (s : State) (x : Published) : State := { s with published := x }

/-- `round` replaced. -/
def State.setRound (s : State) (x : RoundEngine) : State := { s with round := x }

/-- `steer` replaced. -/
def State.setSteer (s : State) (x : Steering) : State := { s with steer := x }

/-- `ref` replaced. -/
def State.setRef (s : State) (x : RefUnit) : State := { s with ref := x }

/-- `outs` replaced. -/
def State.setOuts (s : State) (x : OutputUnit) : State := { s with outs := x }

/-- `code` replaced. -/
def State.setCode (s : State) (x : CodeComposer) : State := { s with code := x }

/-- `capture` replaced. -/
def State.setCapture (s : State) (x : CaptureUnit) : State := { s with capture := x }

/-- `cond` replaced. -/
def State.setCond (s : State) (x : ConditionBlock) : State := { s with cond := x }

/-- `port` replaced. -/
def State.setPort (s : State) (x : CommandPort) : State := { s with port := x }

/-! ## Classes of node states -/

/-- LISTEN, ACQUIRE, TRACK, HOLDOVER and ANCHORED: the states that take steering orders (R9). -/
def NodeState.running : NodeState → Bool
  | .listen | .acquire | .track | .holdover | .anchored => true
  | .warmup | .config | .fault => false

/-- The states in which the clock runs: LISTEN onward, FAULT included (R3). -/
def NodeState.clocked : NodeState → Bool
  | .warmup | .config => false
  | .listen | .acquire | .track | .holdover | .anchored | .fault => true

/-- TRACK, HOLDOVER and ANCHORED (About This Manual, 0.7, Settled). -/
def NodeState.settled : NodeState → Bool
  | .track | .holdover | .anchored => true
  | .warmup | .config | .listen | .acquire | .fault => false

/-- The settled sender states of a tick. -/
def SenderState.settled : SenderState → Bool
  | .track | .holdover | .anchored => true
  | .listen | .acquire => false

/-- Whether a reset is held by the reset pin (R20, R131). -/
def State.held (s : State) : Bool := s.pins.resetAsserted

/-- No reset is held and the node state is LISTEN, ACQUIRE, TRACK, HOLDOVER or ANCHORED. -/
def State.running (s : State) : Bool := !s.held && s.steer.nodeState.running

/-- No reset is held and the clock runs: LISTEN onward, FAULT included (R3). -/
def State.clocked (s : State) : Bool := !s.held && s.steer.nodeState.clocked

/-! ## The configuration in force -/

/-- The built-in lamp table (Table 7-4). -/
def builtInLamp : Vector (BitVec 4) 8 := #v[8#4, 3#4, 2#4, 4#4, 0#4, 5#4, 0#4, 9#4]

/-- The built-in settings of one output (R130): OFF, and LAMP for OUT3. -/
def builtInOut (mode : OutMode) : OutSetting := { mode := mode, pairing := false, floor := 0, rate := 0#4, width := 1 }

/-- What stands in for the record while the part holds none: the built-in output settings and lamp table (R130), every
condition unmasked (R165), REF disabled. The other fields are not read in that case. -/
def ConfigRecord.builtIn : ConfigRecord :=
  { group := 0, typeCode := 0, ensemble := 0, nodes := 4, tolerance := 0, roundCode := 0, closeCode := 0,
    refEnable := false, anchorClass := 0, trackGain := 0, acquireGain := 0, glitch := 0, slewLimit := 1,
    stepThreshold := 1, band := 0, splitBound := 0, portSkew := 0, maxDelay := 10, congestion := 0, growth := 0,
    k0 := 0, k1 := 0, k2 := 0, k3 := 0, masks := 0, lamp := builtInLamp,
    outs := #v[builtInOut .off, builtInOut .off, builtInOut .off, builtInOut .lamp],
    inputs := Vector.replicate 8 { edge := .none, group := none } }

/-- The settings in force: the held record's, or the built-in ones (R130, R165). -/
def State.config (s : State) : ConfigRecord := s.port.record.getD ConfigRecord.builtIn

/-- The round period T_r in milliseconds (Table 10-4). -/
def ConfigRecord.roundMs (c : ConfigRecord) : Nat := 125 * 2 ^ c.roundCode.toNat

/-- The round period T_r in qns. -/
def ConfigRecord.roundQns (c : ConfigRecord) : Nat := c.roundMs * Config.qnsPerMs

/-- The close delay C in qns (Table 10-4). -/
def ConfigRecord.closeQns (c : ConfigRecord) : Nat := 2 ^ c.closeCode.toNat * Config.qnsPerMs

/-- The least size of a set that may be used, 2f + 1 (R76). -/
def ConfigRecord.quorum (c : ConfigRecord) : Nat := 2 * c.tolerance + 1

/-- The node id as an index of the Peer Table (R21). -/
def State.ownId (s : State) : Fin 16 := s.port.strapId.toFin

/-- The lamp table's entry of a node state (R143, Table 10-4). -/
def ConfigRecord.envelopes (c : ConfigRecord) : NodeState → BitVec 4
  | .warmup => c.lamp[0]
  | .config => c.lamp[1]
  | .listen => c.lamp[2]
  | .acquire => c.lamp[3]
  | .track => c.lamp[4]
  | .holdover => c.lamp[5]
  | .anchored => c.lamp[6]
  | .fault => c.lamp[7]

/-! ## Conditions and counters -/

/-- The bit of a condition (Table 10-1). -/
def Condition.bit : Condition → Fin 16
  | .starved => 0 | .clamped => 1 | .stepped => 2 | .split => 3 | .portSkew => 4 | .late => 5 | .badCheck => 6
  | .idClash => 7 | .link => 8 | .oscRange => 9 | .refLost => 10 | .refConflict => 11 | .captureLoss => 12
  | .underrun => 13 | .suspect => 14 | .command => 15

/-- A report to the Condition Block sets its flag (R165). -/
def State.report (s : State) (c : Condition) : State :=
  s.setCond { s.cond with flags := s.cond.flags ||| (1#16 <<< c.bit.val) }

/-- A report made only if `b` holds. -/
def State.reportIf (s : State) (b : Bool) (c : Condition) : State := if b then s.report c else s

/-- The place of a port counter in Table 2-2. -/
def PortCounter.index : PortCounter → Fin 16
  | .txSent => 0 | .txLost => 1 | .linkDrops => 2 | .rxError => 3 | .rxOther => 4 | .rxFormat => 5 | .rxEnsemble => 6
  | .rxForeign => 7 | .rxClash => 8 | .rxBadCheck => 9 | .rxLate => 10 | .rxEarly => 11 | .rxMisnumbered => 12
  | .rxDuplicate => 13 | .rxCrossed => 14 | .rxAccepted => 15

/-- The place of a slot counter in Table 3-6. -/
def SlotCounter.index : SlotCounter → Fin 10
  | .acceptedA => 0 | .acceptedB => 1 | .late => 2 | .early => 3 | .duplicate => 4 | .badCheck => 5 | .discarded => 6
  | .negative => 7 | .congested => 8 | .outOfRange => 9

/-- A port counter advanced by one (R26). -/
def LinkPort.bump (p : LinkPort) (c : PortCounter) : LinkPort :=
  { p with counters := vmodify p.counters c.index (satSucc Config.counterMax) }

/-- A slot counter advanced by one (R66). -/
def Slot.bump (x : Slot) (c : SlotCounter) : Slot :=
  { x with counters := vmodify x.counters c.index (satSucc Config.counterMax) }

/-- A slot counter advanced by one if `b` holds. -/
def Slot.bumpIf (x : Slot) (b : Bool) (c : SlotCounter) : Slot := if b then x.bump c else x

/-- One link port changed. -/
def State.modifyPort (s : State) (p : PortId) (f : LinkPort → LinkPort) : State :=
  s.setPorts (s.ports.set (f (s.ports.get p)) p)

/-- One slot changed. -/
def State.modifySlot (s : State) (i : Fin 16) (f : Slot → Slot) : State := s.setSlots (vmodify s.slots i f)

/-- A counter of a link port advanced by one. -/
def State.bumpPort (s : State) (p : PortId) (c : PortCounter) : State := s.modifyPort p (·.bump c)

/-- A counter of a slot advanced by one. -/
def State.bumpSlot (s : State) (i : Fin 16) (c : SlotCounter) : State := s.modifySlot i (·.bump c)

/-! ## The passing of time -/

/-- The whole qns of slew, and the slew record after them, when `n` main-oscillator cycles pass (R3, R11). -/
def Slew.advance (w : Slew) (n : Nat) : Slew × Int :=
  let total := w.residue + (n : Int) * ((Config.qnsPerCycle : Int) * w.term)
  let whole := total.tdiv (Config.residueUnit : Int)
  ({ w with delivered := w.delivered + whole, residue := total.tmod (Config.residueUnit : Int) }, whole)

/-- The slew in progress advanced by `n` cycles, with the qns it puts into the reading. -/
def advanceSlew (w : Option Slew) (n : Nat) : Option Slew × Int :=
  match w with
  | none => (none, 0)
  | some w => let r := w.advance n; (some r.1, r.2)

/-- The clock after `n` cycles of the main oscillator (R3), with the whole qns of slew delivered. -/
def Clock.advance (k : Clock) (n : Nat) : Clock × Int :=
  let total := k.residue + (n : Int) * ((Config.qnsPerCycle : Int) * k.rate)
  let slewed := advanceSlew k.slew n
  let moved := (n * Config.qnsPerCycle : Nat) + total.tdiv (Config.residueUnit : Int) + slewed.2
  ({ k with reading := k.reading.plus moved, residue := total.tmod (Config.residueUnit : Int), slew := slewed.1 },
    slewed.2)

/-- The Reference Unit counts every qns of slew or step put into the reading since the last pulse stamp (R116). -/
def RefUnit.correct (r : RefUnit) (q : Int) : RefUnit :=
  match r.lastPulse with
  | none => r
  | some _ => { r with correction := int64 (r.correction + q) }

/-- The warm-up count of a reset cause (Table 1-4). -/
def ResetCause.warmUpCount : ResetCause → Nat
  | .powerOn => 16384
  | .pin => 1024
  | .restart => 256

/-- The Oscillator Monitor after `e` has passed (R17, R18, R19). -/
def Monitor.advance (m : Monitor) (e : Elapsed) : Monitor :=
  { m with
    phase := (m.phase + e.monitor) % Config.monitorSecond
    topDue := m.topDue || decide (Config.monitorSecond ≤ m.phase + e.monitor)
    warmCount := min m.cause.warmUpCount (m.warmCount + e.monitor)
    gatePosition := m.gatePosition + e.monitor
    gateCount := min Config.gateCountMax (m.gateCount + e.main) }

/-- A candidate after `n` main-oscillator cycles (R156). -/
def EventInput.advance (x : EventInput) (n : Nat) : EventInput :=
  { x with candidate := x.candidate.map fun c => { c with held := c.held + n } }

/-- The main oscillator's cycles pass: the reading advances, slew included, and candidates are held on (R3, R116, R156). -/
def State.runClock (s : State) (n : Nat) : State :=
  let r := s.clock.advance n
  ((s.setClock r.1).setRef (s.ref.correct r.2)).setCapture
    { s.capture with inputs := vmap (·.advance n) s.capture.inputs }

/-- Time passes: the monitor always counts, the clock advances while it runs, and nothing moves while a reset is held. -/
def State.elapse (s : State) (e : Elapsed) : State :=
  if s.held then s
  else
    let s1 := s.setMonitor (s.monitor.advance e)
    if s.steer.nodeState.clocked then s1.runClock e.main else s1

/-! ## Instants (R7) -/

/-- Whether the reading has reached a named reading. -/
def State.reached (s : State) (t : Option Timestamp) : Bool :=
  match t with
  | none => false
  | some t => s.clock.reading.reached t

/-- The first top of second after a reading. -/
def nextTop (t : Timestamp) : Timestamp := t.secondStart.plus Config.qnsPerSecond

/-- The first half second after a reading. -/
def nextHalf (t : Timestamp) : Timestamp :=
  if t.fraction < 2000000000 then t.secondStart.plus 2000000000 else (nextTop t).plus 2000000000

/-- The first close of a round after a reading (R70, R71). -/
def nextClose (c : ConfigRecord) (t : Timestamp) : Timestamp :=
  if t.qns.val < c.closeQns then Timestamp.ofInt (c.closeQns : Int)
  else Timestamp.ofInt ((((t.qns.val - c.closeQns) / c.roundQns + 1) * c.roundQns + c.closeQns : Nat) : Int)

/-- The round whose close is at a reading, modulo 2^32 (R5, R70). -/
def roundOfClose (c : ConfigRecord) (t : Timestamp) : BitVec 32 :=
  BitVec.ofNat 32 ((t.qns.val - c.closeQns) / c.roundQns)

/-- The stagger of a node id in qns: 32 us for each id (R31). -/
def stagger (id : Fin 16) : Nat := id.val * (32 * Config.qnsPerUs)

/-- The first transmit instant at or after a reading (R31). -/
def nextTransmit (c : ConfigRecord) (id : Fin 16) (t : Timestamp) : Timestamp :=
  if t.qns.val ≤ stagger id then Timestamp.ofInt (stagger id : Int)
  else Timestamp.ofInt ((ceilDiv (t.qns.val - stagger id) c.roundQns * c.roundQns + stagger id : Nat) : Int)

/-- The round whose transmit instant is at a reading, modulo 2^32 (R31). -/
def roundOfTransmit (c : ConfigRecord) (id : Fin 16) (t : Timestamp) : BitVec 32 :=
  BitVec.ofNat 32 ((t.qns.val - stagger id) / c.roundQns)

/-- The instants named once the clock reads `t` after START or a step (R15, R31, R71). -/
def State.namedFrom (s : State) (t : Timestamp) : Named :=
  { top := some (nextTop t), half := some (nextHalf t), close := some (nextClose s.config t),
    transmit := some (nextTransmit s.config s.ownId t) }

end Sys2Proof.Machine
end

