-- ==== Sys2Proof/Machine/Operands.lean ====
section
/-! DEFINITION. The byte formats that commands bring and the part sends: the tick (R28), its check word (R35), the Ethernet
frame around it (R27), and the configuration record (R172, R173). -/

namespace Sys2Proof.Machine

/-! ## Codes -/

/-- Sender state codes (Table 2-3). -/
def SenderState.code : SenderState → BitVec 3
  | .listen => 0#3 | .acquire => 1#3 | .track => 2#3 | .holdover => 3#3 | .anchored => 4#3

/-- The sender state of a code; 5 to 7 name none (Table 2-3). -/
def SenderState.ofCode (c : BitVec 3) : Option SenderState :=
  match c.toNat with
  | 0 => some .listen | 1 => some .acquire | 2 => some .track | 3 => some .holdover | 4 => some .anchored
  | _ => none

/-- The port code of a tick (Table 2-3): 0 is A, 1 is B. -/
def portCode : PortId → BitVec 1
  | .a => 0#1 | .b => 1#1

/-- The port of a code. -/
def portOfCode (c : BitVec 1) : PortId := if c = 0#1 then .a else .b

/-- A flag bit. -/
def flag (b : Bool) : BitVec 1 := BitVec.ofBool b

/-! ## The tick (Table 2-3) -/

/-- The bytes of a 16-bit word, most significant first. -/
def bytes2 (w : BitVec 16) : List Byte := [w.extractLsb' 8 8, w.extractLsb' 0 8]

/-- The bytes of a 32-bit word, most significant first. -/
def bytes4 (w : BitVec 32) : List Byte :=
  [w.extractLsb' 24 8, w.extractLsb' 16 8, w.extractLsb' 8 8, w.extractLsb' 0 8]

/-- The bytes of a 40-bit word, most significant first. -/
def bytes5 (w : BitVec 40) : List Byte :=
  [w.extractLsb' 32 8, w.extractLsb' 24 8, w.extractLsb' 16 8, w.extractLsb' 8 8, w.extractLsb' 0 8]

/-- The six bytes of an echo entry. -/
def Echo.encode (x : Echo) : List Byte := (x.peer ++ x.round16 : BitVec 8) :: bytes4 (x.nanos ++ x.quarter) ++ [x.seconds]

/-- The protected bytes of a tick, bytes 0 to 19 + 6e (R28). -/
def Tick.encode (t : Tick) : List Byte :=
  [ (1#4 ++ t.sender : BitVec 8), t.ensemble,
    (t.period ++ t.status.state.code ++ flag t.status.anchored ++ flag t.status.epochKnown ++ flag t.stepped : BitVec 8),
    (t.status.accuracyClass ++ t.status.anchorClass ++ flag t.status.leapPending : BitVec 8),
    (flag t.status.leapDeletion ++ portCode t.port ++ BitVec.ofNat 4 t.echoes.length ++ 0#2 : BitVec 8) ]
    ++ bytes4 t.round ++ bytes5 t.tx.seconds ++ bytes4 (t.tx.nanos ++ t.tx.quarter) ++ bytes2 t.status.utcOffset
    ++ (t.echoes.map Echo.encode).flatten

/-- A 16-bit word of two bytes. -/
def word2 (l : List Byte) (i : Nat) : BitVec 16 := byteAt l i ++ byteAt l (i + 1)

/-- A 32-bit word of four bytes. -/
def word4 (l : List Byte) (i : Nat) : BitVec 32 :=
  byteAt l i ++ byteAt l (i + 1) ++ byteAt l (i + 2) ++ byteAt l (i + 3)

/-- A 40-bit word of five bytes. -/
def word5 (l : List Byte) (i : Nat) : BitVec 40 :=
  byteAt l i ++ byteAt l (i + 1) ++ byteAt l (i + 2) ++ byteAt l (i + 3) ++ byteAt l (i + 4)

/-- The echo entry at the head of a list of bytes. -/
def Echo.decode (l : List Byte) : Echo :=
  { peer := (byteAt l 0).extractLsb' 4 4, round16 := (byteAt l 0).extractLsb' 0 4,
    nanos := (word4 l 1).extractLsb' 2 30, quarter := (word4 l 1).extractLsb' 0 2, seconds := byteAt l 5 }

/-- The `e` echo entries at the head of a list of bytes. -/
def decodeEchoes : Nat → List Byte → List Echo
  | 0, _ => []
  | e + 1, l => Echo.decode l :: decodeEchoes e (l.drop 6)

/-- Bit `i` of a byte. -/
def bitAt (b : Byte) (i : Nat) : Bool := b.getLsbD i

/-- The format version of a payload (Table 2-3). -/
def tickVersion (l : List Byte) : BitVec 4 := (byteAt l 0).extractLsb' 4 4

/-- The echo count of a payload (Table 2-3). -/
def tickEchoCount (l : List Byte) : Nat := ((byteAt l 4).extractLsb' 2 4).toNat

/-- The tick a payload carries, its sender state being `st` (R28). -/
def Tick.decodeWith (st : SenderState) (l : List Byte) : Tick :=
  { sender := (byteAt l 0).extractLsb' 0 4
    ensemble := byteAt l 1
    period := (byteAt l 2).extractLsb' 6 2
    status :=
      { state := st, anchored := bitAt (byteAt l 2) 2, epochKnown := bitAt (byteAt l 2) 1,
        accuracyClass := (byteAt l 3).extractLsb' 4 4, anchorClass := (byteAt l 3).extractLsb' 1 3,
        leapPending := bitAt (byteAt l 3) 0, leapDeletion := bitAt (byteAt l 4) 7, utcOffset := word2 l 18 }
    stepped := bitAt (byteAt l 2) 0
    port := portOfCode ((byteAt l 4).extractLsb' 6 1)
    echoes := decodeEchoes (tickEchoCount l) (l.drop 20)
    round := word4 l 5
    tx := { seconds := word5 l 9, nanos := (word4 l 14).extractLsb' 2 30, quarter := (word4 l 14).extractLsb' 0 2 } }

/-- Whether the echo entries stand in strictly ascending order of peer id (R28, R39). -/
def echoesAscend : List Echo → Bool
  | [] => true
  | [_] => true
  | x :: y :: r => decide (x.peer.toNat < y.peer.toNat) && echoesAscend (y :: r)

/-- The tick of a payload, when it passes the format checks of stage 2 (Table 2-7): version 1, a sender state of 0 to 4,
at least 24 + 6e bytes, echo entries ascending. -/
def Tick.decode (l : List Byte) : Option Tick :=
  if tickVersion l = 1#4 ∧ 24 + 6 * tickEchoCount l ≤ l.length then
    match SenderState.ofCode ((byteAt l 2).extractLsb' 3 3) with
    | none => none
    | some st =>
      let t := Tick.decodeWith st l
      if echoesAscend t.echoes then some t else none
  else none

/-! ## The check word (R35) -/

/-- Protected bytes packed into 32-bit words, the last filled up with zero bytes. -/
def packWords : List Byte → List (BitVec 32)
  | [] => []
  | [a] => [a ++ 0#8 ++ 0#8 ++ 0#8]
  | [a, b] => [a ++ b ++ 0#8 ++ 0#8]
  | [a, b, c] => [a ++ b ++ c ++ 0#8]
  | a :: b :: c :: d :: r => (a ++ b ++ c ++ d) :: packWords r

/-- The bytes of a word in reverse order. -/
def byteReverse (w : BitVec 32) : BitVec 32 :=
  w.extractLsb' 0 8 ++ w.extractLsb' 8 8 ++ w.extractLsb' 16 8 ++ w.extractLsb' 24 8

/-- Steps 2 and 3 of R35; `k`, `k'`, `k''`, `k'''` are the keys in the order in which they come next. -/
def accumulate (acc : BitVec 32) (k k' k'' k''' : BitVec 32) : List (BitVec 32) → BitVec 32
  | [] => acc
  | w :: ws => accumulate (acc.rotateLeft 5 + (w ^^^ k)) k' k'' k''' k ws

/-- The check word of packed words under four keys (R35). -/
def checkWordOf (k0 k1 k2 k3 : BitVec 32) (ws : List (BitVec 32)) : BitVec 32 :=
  byteReverse (accumulate k0 k1 k2 k3 k0 ws) + k3

/-- The check word of protected bytes under the configured keys (R35). -/
def ConfigRecord.checkWord (c : ConfigRecord) (l : List Byte) : BitVec 32 :=
  checkWordOf c.k0 c.k1 c.k2 c.k3 (packWords l)

/-! ## The Ethernet frame (R27) -/

/-- One bit of the Ethernet cyclic redundancy check, generator 04C11DB7h in its reflected form (PRESUMED, log entry 11). -/
def crcBit (r : BitVec 32) : BitVec 32 := if r.getLsbD 0 then (r >>> 1) ^^^ 0xEDB88320#32 else r >>> 1

/-- One byte of the check. -/
def crcByte (r : BitVec 32) (b : Byte) : BitVec 32 :=
  crcBit (crcBit (crcBit (crcBit (crcBit (crcBit (crcBit (crcBit (r ^^^ b.setWidth 32))))))))

/-- The frame check sequence of a frame's bytes, as the four bytes that are sent (R27). -/
def frameCheck (l : List Byte) : List Byte := (bytes4 (~~~ (l.foldl crcByte 0xFFFFFFFF#32))).reverse

/-- The bytes of a 48-bit address. -/
def bytes6 (w : BitVec 48) : List Byte := bytes2 (w.extractLsb' 32 16) ++ bytes4 (w.extractLsb' 0 32)

/-- A payload padded with zero bytes to 46 (R27). -/
def padPayload (l : List Byte) : List Byte := l ++ List.replicate (46 - l.length) 0#8

/-- The whole frame of a tick's payload sent on a port (R27). -/
def ConfigRecord.frameOf (c : ConfigRecord) (id : BitVec 4) (p : PortId) (payload : List Byte) : List Byte :=
  let body := bytes6 c.group ++ [0x02#8, 0x00#8, 0x00#8, c.ensemble, id.setWidth 8, (portCode p).setWidth 8]
    ++ bytes2 c.typeCode ++ padPayload payload
  body ++ frameCheck body

/-- The tick with its check word, as a payload (R32, R35). -/
def ConfigRecord.payloadOf (c : ConfigRecord) (t : Tick) : List Byte := t.encode ++ bytes4 (c.checkWord t.encode)

/-- Whether a port takes a received frame for the filter: its check sequence holds and its length is 64 to 1,522 (R27). -/
def frameSound (l : List Byte) : Bool :=
  decide (64 ≤ l.length) && decide (l.length ≤ 1522) && decide (l.drop (l.length - 4) = frameCheck (l.take (l.length - 4)))

/-- Where the type code of a received frame stands: after the source address, or after one tag (R27). -/
def typeOffset (l : List Byte) : Nat := if word2 l 12 = 0x8100#16 then 16 else 12

/-- The type code of a received frame (R27). -/
def frameType (l : List Byte) : BitVec 16 := word2 l (typeOffset l)

/-- The payload of a received frame: what stands between the type code and the check sequence (R27). -/
def framePayload (l : List Byte) : List Byte := (l.drop (typeOffset l + 2)).take (l.length - 4 - (typeOffset l + 2))

/-- The destination address of a received frame. -/
def frameDestination (l : List Byte) : BitVec 48 := word4 l 0 ++ word2 l 4

/-! ## The configuration record (Table 10-4, R173) -/

/-- Output modes by code; 5 to 7 name none. -/
def OutMode.ofCode (n : Nat) : Option OutMode :=
  match n with
  | 0 => some .off | 1 => some .pulse | 2 => some .train | 3 => some .lamp | 4 => some .code
  | _ => none

/-- The mode code of OUT`k` in a record. -/
def modeCode (l : List Byte) (k : Nat) : Nat := ((byteAt l (62 + 4 * k)).extractLsb' 5 3).toNat

/-- The mode of OUT`k` in a record. -/
def modeOf (l : List Byte) (k : Nat) : OutMode := (OutMode.ofCode (modeCode l k)).getD .off

/-- The pairing flag of OUT`k` in a record; OUT1 and OUT3 have none. -/
def pairingOf (l : List Byte) (k : Nat) : Bool := (k == 0 || k == 2) && bitAt (byteAt l (62 + 4 * k)) 4

/-- The edge setting of EV`i` in a record. -/
def edgeOf (l : List Byte) (i : Nat) : EdgeSetting :=
  match ((byteAt l (78 + i)).extractLsb' 2 2).toNat with
  | 0 => .none | 1 => .rise | 2 => .fall | _ => .both

/-- The group code of EV`i` in a record. -/
def groupCode (l : List Byte) (i : Nat) : Nat := ((byteAt l (78 + i)).extractLsb' 0 2).toNat

/-- The group of EV`i` in a record. -/
def groupOf (l : List Byte) (i : Nat) : Option GroupId :=
  match groupCode l i with
  | 1 => some .g0 | 2 => some .g1 | _ => none

/-- The T_r and C codes of a record. -/
def roundCodeOf (l : List Byte) : BitVec 2 := (byteAt l 11).extractLsb' 6 2
/-- The C code of a record. -/
def closeCodeOf (l : List Byte) : BitVec 2 := (byteAt l 11).extractLsb' 4 2

/-- Whether the byte at an offset holds an offending field (R173, first pass). -/
def offends (l : List Byte) (i : Nat) : Bool :=
  if i = 11 then decide (125 * 2 ^ (roundCodeOf l).toNat < 16 * 2 ^ (closeCodeOf l).toNat)
  else if i = 62 ∨ i = 66 ∨ i = 70 ∨ i = 74 then
    let k := (i - 62) / 4
    decide (4 < modeCode l k)
      || (pairingOf l k && (decide (modeOf l k ≠ .train) || decide (modeOf l (k + 1) ≠ .pulse)))
  else if 78 ≤ i ∧ i ≤ 85 then
    decide (groupCode l (i - 78) = 3) || (decide (groupCode l (i - 78) ≠ 0) && decide (edgeOf l (i - 78) = .both))
  else false

/-- The lowest-numbered byte that holds an offending field, if any does (R173). -/
def refusalOffset (l : List Byte) : Option Nat := (List.range 86).find? (offends l)

/-- A big-endian number in a record. -/
def numberAt (l : List Byte) (i n : Nat) : Nat := beNat (bytesAt l i n)

/-- The numeric fields of a record as loaded, before clamping. -/
def rawSlewLimit (l : List Byte) : Nat := numberAt l 14 4

/-- The clamped slew limit (Table 10-4). -/
def clampedSlewLimit (l : List Byte) : Nat := clampIn 1 1000000 (rawSlewLimit l)

/-- Every clamped field with its raw and its clamped value, in the order R173 counts them. -/
def clampPairs (l : List Byte) : List (Nat × Nat) :=
  [ (numberAt l 9 1, clampIn 4 16 (numberAt l 9 1)),
    (numberAt l 10 1, clampIn 0 5 (numberAt l 10 1)),
    (((byteAt l 12).extractLsb' 4 4).toNat, clampIn 0 12 ((byteAt l 12).extractLsb' 4 4).toNat),
    (((byteAt l 12).extractLsb' 0 4).toNat, clampIn 0 12 ((byteAt l 12).extractLsb' 0 4).toNat),
    (rawSlewLimit l, clampedSlewLimit l),
    (numberAt l 18 4, clampIn (clampedSlewLimit l) 4194304 (numberAt l 18 4)),
    (numberAt l 22 4, clampIn 0 4194304 (numberAt l 22 4)),
    (numberAt l 26 4, clampIn 0 4194304 (numberAt l 26 4)),
    (numberAt l 30 4, clampIn 0 4194304 (numberAt l 30 4)),
    (numberAt l 34 2, clampIn 10 1000 (numberAt l 34 2)),
    (numberAt l 64 2, clampIn 1 500 (numberAt l 64 2)),
    (numberAt l 68 2, clampIn 1 500 (numberAt l 68 2)),
    (numberAt l 72 2, clampIn 1 500 (numberAt l 72 2)),
    (numberAt l 76 2, clampIn 1 500 (numberAt l 76 2)) ]

/-- The number of fields clamped, 0 to 14 (R173). -/
def clampCount (l : List Byte) : Nat := ((clampPairs l).filter fun p => p.1 != p.2).length

/-- The clamped value of the `i`-th field of `clampPairs`. -/
def clampedField (l : List Byte) (i : Nat) : Nat := ((clampPairs l).getD i (0, 0)).2

/-- The record an accepted LOAD_CONFIG holds (R172, R173). -/
def ConfigRecord.ofBytes (l : List Byte) : ConfigRecord :=
  { group := word4 l 0 ++ word2 l 4
    typeCode := word2 l 6
    ensemble := byteAt l 8
    nodes := clampedField l 0
    tolerance := clampedField l 1
    roundCode := roundCodeOf l
    closeCode := closeCodeOf l
    refEnable := bitAt (byteAt l 11) 3
    anchorClass := (byteAt l 11).extractLsb' 0 3
    trackGain := clampedField l 2
    acquireGain := clampedField l 3
    glitch := ((byteAt l 13).extractLsb' 0 4).toNat
    slewLimit := clampedField l 4
    stepThreshold := clampedField l 5
    band := clampedField l 6
    splitBound := clampedField l 7
    portSkew := clampedField l 8
    maxDelay := clampedField l 9
    congestion := numberAt l 36 2
    growth := numberAt l 38 2
    k0 := word4 l 40
    k1 := word4 l 44
    k2 := word4 l 48
    k3 := word4 l 52
    masks := word2 l 56
    lamp := vtable 8 fun j =>
      if j.val % 2 = 0 then (byteAt l (58 + j.val / 2)).extractLsb' 4 4 else (byteAt l (58 + j.val / 2)).extractLsb' 0 4
    outs := vtable 4 fun k =>
      { mode := modeOf l k.val, pairing := pairingOf l k.val,
        floor := ((byteAt l (62 + 4 * k.val)).extractLsb' 0 4).toNat,
        rate := (byteAt l (63 + 4 * k.val)).extractLsb' 0 4, width := clampedField l (10 + k.val) }
    inputs := vtable 8 fun i => { edge := edgeOf l i.val, group := groupOf l i.val } }

/-! ## Transactions (R168, Table 10-2) -/

/-- The number of argument bytes of a command code; a code that is not in Table 10-2 has none. -/
def argumentLength (code : Byte) : Option Nat :=
  match code.toNat with
  | 0x01 => some 0 | 0x02 => some 0 | 0x03 => some 0 | 0x04 => some 1 | 0x05 => some 0
  | 0x10 => some 86 | 0x11 => some 0 | 0x12 => some 0 | 0x13 => some 6 | 0x14 => some 8
  | _ => none

/-- Whether the whole bytes sent fall short of a command: no code, or a known code without its last argument byte
(R169). -/
def transactionIncomplete : List Byte → Bool
  | [] => true
  | code :: rest =>
    match argumentLength code with
    | none => false
    | some n => decide (rest.length < n)

end Sys2Proof.Machine
end

