-- ==== Sys2Proof/Decode.lean ====
section
/-! DEFINITION. Reading a command. The opcode table gives its rows no bits, so a word of it spells no command; the SPI
transaction of a host command does, by R168 and Table 10-2, and is read and written here. -/

namespace Sys2Proof

open Machine

/-- The command that a word spells by the table's bits: none, since no row of the table has bits. -/
def decodeTableWord (_nbits _w : Nat) : Option Instr := none

/-- The host command of a code whose argument bytes are all there (Table 10-2). What the argument window held back only a
malformed transaction carries (R169). -/
def decodeCommand (w : Window) (code : Byte) (l : List Byte) : Instr :=
  let e := w.rest
  match code.toNat with
  | 0x01 => .readTime e
  | 0x02 => .readStatus e
  | 0x03 => .readRound e
  | 0x04 => .readPeer e (byteAt l 0)
  | 0x05 => .readCapture e
  | 0x10 => .loadConfig e (l.take 86)
  | 0x11 => .start e
  | 0x12 => .restart e
  | 0x13 => .clear e (word4 l 0) (word2 l 4)
  | 0x14 => .anchorTime e (word5 l 0) (word2 l 5) (byteAt l 7)
  | _ => .unknownCommand w code

/-- The command that the bytes of a transaction make, the chip select having risen after them (R168, R169). Bytes beyond
the last argument byte are ignored. -/
def decodeTransaction (w : Window) (bytes : List Byte) : Instr :=
  match bytes with
  | [] => .transactionCutShort w []
  | code :: rest => if transactionIncomplete bytes then .transactionCutShort w bytes else decodeCommand w code rest

/-- The bytes that the host sends for a command, up to the last argument byte (Table 10-2); none for an event that is no
transaction of the host's. -/
def encodeTransaction (i : Instr) : Option (List Byte) :=
  match i with
  | .readTime _ => some [0x01#8]
  | .readStatus _ => some [0x02#8]
  | .readRound _ => some [0x03#8]
  | .readPeer _ id => some [0x04#8, id]
  | .readCapture _ => some [0x05#8]
  | .loadConfig _ record => some (0x10#8 :: record)
  | .start _ => some [0x11#8]
  | .restart _ => some [0x12#8]
  | .clear _ conditions slots => some (0x13#8 :: bytes4 conditions ++ bytes2 slots)
  | .anchorTime _ seconds utcOffset flags => some (0x14#8 :: bytes5 seconds ++ bytes2 utcOffset ++ [flags])
  | .unknownCommand _ code => some [code]
  | .transactionCutShort _ sent => some sent
  | .supplyReset _ _ | .resetPinAssert _ | .resetPinRelease _ _ | .commandReset _ _ | .strapSample _ _ | .gateEnd _
  | .monitorTop _ | .linkDrop _ _ _ | .linkUp _ _ | .transmitInstant _ | .tickEgress _ _ | .tickTxComplete _ _
  | .frameReceive _ _ _ | .roundClose _ | .roundCompletion _ | .slewEnd _ | .refPulse _ | .missInstant _
  | .anchorTimeExpiry _ | .topOfSecond _ | .halfSecond _ | .pulseEnd _ _ | .trainEdge _ _ | .leapGuardExpiry _
  | .rawChange _ _ _ | .filteredEdge _ _ | .argumentWindowOverrun _ _ => none

/-- The time that a command carries, with what a malformed transaction's argument window held back. -/
def Instr.window : Instr → Window
  | .unknownCommand w _ | .transactionCutShort w _ | .argumentWindowOverrun w _ => w
  | .supplyReset e _ | .resetPinAssert e | .resetPinRelease e _ | .commandReset e _ | .strapSample e _ | .gateEnd e
  | .monitorTop e | .linkDrop e _ _ | .linkUp e _ | .transmitInstant e | .tickEgress e _ | .tickTxComplete e _
  | .frameReceive e _ _ | .roundClose e | .roundCompletion e | .slewEnd e | .refPulse e | .missInstant e
  | .anchorTimeExpiry e | .topOfSecond e | .halfSecond e | .pulseEnd e _ | .trainEdge e _ | .leapGuardExpiry e
  | .rawChange e _ _ | .filteredEdge e _ | .readTime e | .readStatus e | .readRound e | .readPeer e _ | .readCapture e
  | .loadConfig e _ | .start e | .restart e | .clear e _ _ | .anchorTime e _ _ _ => { held := [], rest := e }

/-- The time that a command carries after what its window held back. -/
def Instr.elapsed (i : Instr) : Elapsed := i.window.rest

end Sys2Proof
end

