-- ==== Sys2Proof/Machine/Flags.lean ====
section
/-! DEFINITION. The lines the part drives: ALERT (R166), EVENT (R161) and OUT0 to OUT3 (R131, R143, R144, R147), each a
function of the state. -/

namespace Sys2Proof.Machine

/-- ALERT is asserted while an unmasked condition flag or the FAULT flag is set and no reset is held (R166). -/
def State.alert (s : State) : Bool :=
  !s.held && (decide (s.cond.flags &&& ~~~ s.config.masks ≠ 0#16) || s.cond.fault)

/-- EVENT is asserted while the capture FIFO holds a record (R161). -/
def State.eventLine (s : State) : Bool := !s.capture.fifo.isEmpty

/-! ## Output settings -/

/-- The settings of OUT`k` in force (R130). -/
def State.outSetting (s : State) (k : Fin 4) : OutSetting := s.config.outs[k]

/-- Whether OUT0 is paired with OUT1 (R138). -/
def State.firstPaired (s : State) : Bool := (s.outSetting 0).pairing

/-- Whether OUT2 is paired with OUT3 (R138). -/
def State.secondPaired (s : State) : Bool := (s.outSetting 2).pairing

/-- Whether OUT`k` belongs to a pair. -/
def State.paired (s : State) (k : Fin 4) : Bool := if k.val < 2 then s.firstPaired else s.secondPaired

/-- The pair OUT`k` belongs to when it is paired. -/
def State.pairOf (s : State) (k : Fin 4) : PairState := if k.val < 2 then s.outs.first else s.outs.second

/-- The train rate of a rate code, in pulses per second (Table 7-2). -/
def trainRate (c : BitVec 4) : Nat :=
  (#v[1, 2, 4, 10, 50, 60, 100, 960, 1000, 1200, 2400, 4000, 4800, 9600, 12800, 14400] : Vector Nat 16)[c.toFin]

/-! ## The active condition (R132) -/

/-- Whether OUT`k` meets the active condition by its own floor. -/
def State.activeAlone (s : State) (k : Fin 4) : Bool :=
  s.steer.nodeState.settled && decide (s.steer.accuracyClass ≤ (s.outSetting k).floor)

/-- Whether the pair of OUT`k` is active: both its outputs are. -/
def State.activePair (s : State) (k : Fin 4) : Bool :=
  if k.val < 2 then s.activeAlone 0 && s.activeAlone 1 else s.activeAlone 2 && s.activeAlone 3

/-- Whether OUT`k` is active, alone or with its pair. -/
def State.active (s : State) (k : Fin 4) : Bool := if s.paired k then s.activePair k else s.activeAlone k

/-! ## Lamps (R143, R144) -/

/-- Whether every envelope of a set is high at `position` within a second of `second` units. -/
def envelopesHigh (set : BitVec 4) (position second : Nat) : Bool :=
  [(0, 1), (1, 2), (2, 4), (3, 8)].all fun p =>
    !set.getLsbD p.1 || decide (position % (second / p.2) < second / 2 / p.2)

/-- The level of a LAMP output that is not dark. -/
def State.lampLevel (s : State) : Bool :=
  if s.outs.clockTiming then envelopesHigh s.outs.lampLatch s.clock.reading.fraction Config.qnsPerSecond
  else envelopesHigh s.outs.lampLatch s.monitor.phase Config.monitorSecond

/-! ## The time code line (R147, R153) -/

/-- The high time of a symbol in qns (Table 8-1). -/
def Symbol.highTime : Symbol → Nat
  | .zero => 20000000
  | .one => 40000000
  | .mark => 60000000

/-- The length of a symbol's slot in qns (R147). -/
abbrev slotQns : Nat := 80000000

/-- The high time of the symbol of a frame whose slot holds a fraction of the second. -/
def CodeFrame.highTimeAt (f : CodeFrame) (fraction : Nat) : Nat := (f.symbols.getD (fraction / slotQns) .zero).highTime

/-- The level R147 gives a frame at a fraction of the second. -/
def CodeFrame.levelAt (f : CodeFrame) (fraction : Nat) : Bool := decide (fraction % slotQns < f.highTimeAt fraction)

/-- Whether a frame holds the line high at a reading: in its own second, at a high of one of its symbols (R147). -/
def CodeFrame.highAt (f : CodeFrame) (t : Timestamp) : Bool :=
  decide (f.second = BitVec.ofNat 40 t.seconds) && f.levelAt t.fraction

/-- The level of a CODE output: the current frame's while it runs, and the symbol that a mute left in progress. -/
def State.codeLevel (s : State) (c : Channel) : Bool :=
  match c.phase with
  | .running =>
    match s.code.current with
    | some f => f.highAt s.clock.reading
    | none => false
  | _ =>
    match c.tail with
    | some t => !s.clock.reading.reached t
    | none => false

/-- The level of line OUT`k` (R131): low while a reset is held and in OFF mode. -/
def State.outLevel (s : State) (k : Fin 4) : Bool :=
  !s.held &&
    match (s.outSetting k).mode with
    | .off => false
    | .pulse | .train => s.outs.channels[k].high
    | .lamp => !s.outs.channels[k].dark && s.lampLevel
    | .code => s.codeLevel s.outs.channels[k]

end Sys2Proof.Machine
end

