-- ==== Sys2Proof/Machine/Capture.lean ====
section
/-! DEFINITION. The Capture Unit (Chapter 9): the glitch filter, the groups, the capture FIFO; RAW_CHANGE and
FILTERED_EDGE. -/

namespace Sys2Proof.Machine

/-! ## Edges and groups (R156 to R158) -/

/-- The edge that takes a line to a level (R156). -/
def edgeTo (level : Bool) : EdgeKind := if level then .rise else .fall

/-- Whether an edge setting admits an edge (R157). -/
def EdgeSetting.admits : EdgeSetting → EdgeKind → Bool
  | .none, _ => false
  | .rise, .rise => true
  | .rise, .fall => false
  | .fall, .rise => false
  | .fall, .fall => true
  | .both, _ => true

/-- Whether a filtered level is a member's inactive level (R158). No group member has the setting BOTH (R173). -/
def EdgeSetting.inactive : EdgeSetting → Bool → Bool
  | .rise, level => !level
  | .fall, level => level
  | .none, _ => true
  | .both, _ => true

/-- Whether every member of a group stands at its inactive level, given all filtered levels (R158). -/
def groupInactive (cfg : ConfigRecord) (g : GroupId) (levels : Fin 8 → Bool) : Bool :=
  (List.finRange 8).all fun i => decide (cfg.inputs[i].group ≠ some g) || (cfg.inputs[i].edge).inactive (levels i)

/-- The filtered level of an input, low where none is held. -/
def CaptureUnit.level (c : CaptureUnit) (i : Fin 8) : Bool := c.inputs[i].level.getD false

/-- The arm state of a group. -/
def CaptureUnit.arm (c : CaptureUnit) : GroupId → Option ArmState
  | .g0 => c.arm0
  | .g1 => c.arm1

/-- The arm state that START gives a group (R158). -/
def armAtStart (inactive : Bool) : ArmState := if inactive then .armed else .disarmed

/-- The arm state of a group after a filtered edge: a qualifying edge of a member disarms it, and otherwise it is armed
when every member is inactive (R158). -/
def armAfter (arm : Option ArmState) (disarms inactive : Bool) : Option ArmState :=
  if disarms then some .disarmed else if inactive then some .armed else arm

/-- Whether a qualifying edge of an input is a capture (R157). -/
def CaptureUnit.captures (c : CaptureUnit) (group : Option GroupId) : Bool :=
  match group with
  | none => true
  | some g => decide (c.arm g = some .armed)

/-! ## The FIFO (R160) -/

/-- The number of records the capture FIFO holds (R160). -/
abbrev fifoCapacity : Nat := 32

/-- A capture stored, or discarded at a full FIFO (R160). -/
def CaptureUnit.store (c : CaptureUnit) (i : Fin 8) (edge : EdgeKind) (x : Snapshot) : CaptureUnit :=
  if c.fifo.length < fifoCapacity then
    { c with fifo := c.fifo ++ [{ input := i, edge := edge, snapshot := x, loss := c.lossPending }], lossPending := false }
  else { c with overflow := satSucc 255 c.overflow, lossPending := true }

/-- A capture, with the report of one that is discarded (R160). -/
def State.storeCapture (s : State) (i : Fin 8) (edge : EdgeKind) (x : Snapshot) : State :=
  (s.setCapture (s.capture.store i edge x)).reportIf (decide (fifoCapacity ≤ s.capture.fifo.length)) .captureLoss

/-! ## Filtered edges -/

/-- The filter time in main-oscillator cycles (R156). -/
def ConfigRecord.filterCycles (c : ConfigRecord) : Nat := 100 * c.glitch

/-- The filtered level of one input changed, its candidate used up (R156). -/
def State.setFiltered (s : State) (i : Fin 8) (level : Bool) : State :=
  s.setCapture { s.capture with inputs := s.capture.inputs.set i { level := some level, candidate := none } }

/-- Both arm states after a filtered edge of input `i` that did or did not qualify (R158). -/
def State.moveArms (s : State) (i : Fin 8) (qualifies : Bool) : State :=
  let cfg := s.config
  let levels := s.capture.level
  let disarms (g : GroupId) : Bool := qualifies && decide (cfg.inputs[i].group = some g)
  s.setCapture { s.capture with
    arm0 := armAfter s.capture.arm0 (disarms .g0) (groupInactive cfg .g0 levels)
    arm1 := armAfter s.capture.arm1 (disarms .g1) (groupInactive cfg .g1 levels) }

/-- A filtered edge of input `i` to `level`, carrying a candidate's snapshot (R156 to R160). -/
def State.filteredEdge (s : State) (i : Fin 8) (level : Bool) (x : Snapshot) : State :=
  let set := s.config.inputs[i]
  let qualifies := set.edge.admits (edgeTo level)
  let captured := qualifies && s.capture.captures set.group
  let s1 := (s.setFiltered i level).moveArms i qualifies
  if captured then s1.storeCapture i (edgeTo level) x else s1

/-- The filtered edge of an input whose candidate has held for the filter time, if it has (R156). -/
def State.takeFiltered (s : State) (i : Fin 8) : State :=
  match s.capture.inputs[i].candidate with
  | none => s
  | some c => if s.config.filterCycles ≤ c.held then s.filteredEdge i (!s.capture.level i) c.snapshot else s

/-! ## Raw changes (R156) -/

/-- The snapshot of this instant (R156). -/
def State.snapshot (s : State) : Snapshot :=
  { stamp := s.clock.reading, step := s.clock.stepCount, nodeState := s.steer.nodeState,
    accuracyClass := s.steer.accuracyClass }

/-- The candidate of an input when its line takes a level: begun on a change away from the filtered level, ended on a
return to it, kept where the line already stood away (R156). -/
def EventInput.raw (x : EventInput) (level : Bool) (shot : Snapshot) : EventInput :=
  match x.level with
  | none => x
  | some l =>
    if level = l then { x with candidate := none }
    else { x with candidate := some (x.candidate.getD { snapshot := shot, held := 0 }) }

/-- The line of an event input takes a level (R155). -/
def State.setEventPin (s : State) (i : Fin 8) (level : Bool) : State :=
  s.setPins { s.pins with event := s.pins.event.set i level }

/-- A raw change while the inputs are watched. A candidate that has already held for the filter time gives its edge first;
with a filter time of 0 the change is a filtered edge at once (R156). -/
def State.rawChange (s : State) (i : Fin 8) (level : Bool) : State :=
  let s1 := s.takeFiltered i
  let s2 := s1.setCapture { s1.capture with inputs := vmodify s1.capture.inputs i (·.raw level s1.snapshot) }
  if s2.config.filterCycles = 0 then s2.takeFiltered i else s2

/-! ## START (R155, R158) -/

/-- The Capture Unit at START: filtered levels from the lines, arm states from the levels. -/
def CaptureUnit.atStart (c : CaptureUnit) (cfg : ConfigRecord) (pins : Vector Bool 8) : CaptureUnit :=
  { c with
    inputs := vmap (fun l => { level := some l, candidate := none }) pins
    arm0 := some (armAtStart (groupInactive cfg .g0 fun i => pins[i]))
    arm1 := some (armAtStart (groupInactive cfg .g1 fun i => pins[i])) }

/-! ## The commands -/

/-- RAW_CHANGE (R155, R156): the line always takes the level; it is watched from START on, FAULT included. -/
def execRawChange (e : Elapsed) (i : Fin 8) (level : Bool) (s : State) : Host.Outcome State Fault Refusal :=
  let u := (s.elapse e).setEventPin i level
  .next (if u.clocked then u.rawChange i level else u)

/-- FILTERED_EDGE (R156 to R160). -/
def execFilteredEdge (e : Elapsed) (i : Fin 8) (s : State) : Host.Outcome State Fault Refusal :=
  let u := s.elapse e
  .next (if u.clocked then u.takeFiltered i else u)

end Sys2Proof.Machine
end

