-- ==== Sys2Proof/Machine/Code.lean ====
section
/-! DEFINITION. UTC: leaps (R127), the calendar (R128), and the Code Composer (Chapter 8). -/

namespace Sys2Proof.Machine

/-! ## Leaps (R127) -/

/-- Whether a leap falls at the top of second that begins ensemble second `e`, under UTC values with leap pending. -/
def UtcValues.leapsAt (u : UtcValues) (e : Int) : Bool :=
  u.pending && (if u.deletion then decide ((e - 1 - u.offset) % 86400 = 86398) else decide ((e - 1 - u.offset) % 86400 = 0))

/-- The UTC values after a leap: the offset moved by one within its limits, leap pending cleared (R127). -/
def UtcValues.leap (u : UtcValues) : UtcValues :=
  { u with
    offset :=
      if u.deletion then (if u.offset ≤ -1000 then u.offset else u.offset - 1)
      else if 1000 ≤ u.offset then u.offset else u.offset + 1
    pending := false }

/-- The UTC values after the top of second that begins ensemble second `e` (R127, R149). -/
def UtcValues.atTop (u : UtcValues) (e : Int) : UtcValues := if u.leapsAt e then u.leap else u

/-- Whether a leap of these values falls at a top that begins one of the seconds `low` to `high`. -/
def UtcValues.leapsWithin (u : UtcValues) (low high : Int) : Bool :=
  let want := if u.deletion then (86399 + u.offset) else (1 + u.offset)
  u.pending && decide (low + (want - low) % 86400 ≤ high)

/-- Whether a forward step from one reading by `c` jumps over a top of second at which a leap falls (R127). -/
def UtcValues.leapJumped (u : UtcValues) (t : Timestamp) (c : Int) : Bool :=
  let high := ((t.qns.val : Int) + c) / (Config.qnsPerSecond : Int)
  if high < 1099511627776 then u.leapsWithin (t.seconds + 1) high
  else u.leapsWithin (t.seconds + 1) 1099511627775 || u.leapsWithin 0 (min (high - 1099511627776) 1099511627775)

/-! ## The calendar (R128) -/

/-- A UTC presentation (R128). -/
structure Calendar where
  second : Nat
  minute : Nat
  hour   : Nat
  day    : Nat
  year   : Nat
  deriving DecidableEq, Repr

/-- Year of the century and day of the year of a day number (R128, step 3). -/
def yearAndDay (d : Nat) : Nat × Nat :=
  let block := d / 1461
  let rest := d % 1461
  if rest < 366 then (4 * block, rest + 1)
  else (4 * block + 1 + (rest - 366) / 365, (rest - 366) % 365 + 1)

/-- The count U of R128, step 1. -/
def utcCount (e : Int) (offset : Int) : Nat := ((e - offset) % 3155760000).toNat

/-- Whether ensemble second `e` is an inserted second (R127). -/
def UtcValues.inserted (u : UtcValues) (e : Int) : Bool :=
  u.pending && !u.deletion && decide ((e - u.offset) % 86400 = 0)

/-- The UTC presentation of ensemble second `e` (R128). -/
def UtcValues.present (u : UtcValues) (e : Int) : Calendar :=
  if u.inserted e then
    let yd := yearAndDay (utcCount (e - 1) u.offset / 86400)
    { second := 60, minute := 59, hour := 23, day := yd.2, year := yd.1 }
  else
    let n := utcCount e u.offset
    let yd := yearAndDay (n / 86400)
    { second := n % 60, minute := n / 60 % 60, hour := n / 3600 % 24, day := yd.2, year := yd.1 }

/-! ## Frames (R148) -/

/-- A binary digit as a symbol. -/
def symbolOf (b : Bool) : Symbol := if b then .one else .zero

/-- A binary field of `w` symbols, least significant bit first (R148). -/
def fieldSymbols (w n : Nat) : List Symbol := (List.range w).map fun i => symbolOf (n.testBit i)

/-- The state code of a node state (Table 8-2). -/
def NodeState.symbolCode : NodeState → Nat
  | .acquire => 1 | .track => 2 | .holdover => 3 | .anchored => 4
  | .warmup | .config | .listen | .fault => 0

/-- The symbols of positions 1 to 33 and 35 to 45 (Table 8-2). -/
def dataSymbols (c : Calendar) (cls : Nat) (st : NodeState) (u : UtcValues) (known stepped : Bool) :
    List Symbol × List Symbol :=
  (fieldSymbols 6 c.second ++ fieldSymbols 6 c.minute ++ fieldSymbols 5 c.hour ++ fieldSymbols 9 c.day ++ fieldSymbols 7 c.year,
    fieldSymbols 4 cls ++ fieldSymbols 3 st.symbolCode ++ [symbolOf u.pending, symbolOf u.deletion, symbolOf known,
      symbolOf stepped])

/-- The check count: the ONE symbols among positions 1 to 45, modulo 8 (R148). -/
def checkCount (p : List Symbol × List Symbol) : Nat := ((p.1 ++ p.2).count .one) % 8

/-- The 50 symbols of a frame (Table 8-2). -/
def frameSymbols (c : Calendar) (cls : Nat) (st : NodeState) (u : UtcValues) (known stepped : Bool) : List Symbol :=
  let p := dataSymbols c cls st u known stepped
  .mark :: p.1 ++ [.mark] ++ p.2 ++ fieldSymbols 3 (checkCount p) ++ [.mark]

/-! ## Composition (R149, R150) -/

/-- The frame for ensemble second `e`, from the values the Steering Controller holds, against a reference step count
(R149, R150). -/
def State.composeFrame (s : State) (e : Nat) (reference : BitVec 8) : CodeFrame :=
  let u := s.steer.utc.atTop e
  { second := BitVec.ofNat 40 e, step := s.clock.stepCount,
    symbols := frameSymbols (u.present e) s.steer.accuracyClass s.steer.nodeState u s.steer.epochKnown
      (decide (s.clock.stepCount ≠ reference)) }

/-- The reference step count that a composition at a half second takes: that of the frame composed before (R150). -/
def CodeComposer.nextReference (c : CodeComposer) : BitVec 8 :=
  match c.pendingFrame, c.current with
  | some f, _ => f.step
  | none, some f => f.step
  | none, none => c.referenceStep

/-- The second after the one in which a reading lies, modulo 2^40. -/
def secondAfter (t : Timestamp) : Nat := (t.seconds + 1) % 1099511627776

/-- The composition of the pending frame at the half second of the second in which `t` lies (R149, R150). -/
def State.composeAtHalf (s : State) (t : Timestamp) : State :=
  let reference := s.code.nextReference
  s.setCode { s.code with referenceStep := reference, pendingFrame := some (s.composeFrame (secondAfter t) reference) }

/-- The Code Composer under a step that has taken the reading to where it now stands (R152). -/
def State.codeOnStep (s : State) : State :=
  let t := s.clock.reading
  s.setCode { s.code with
    pendingFrame :=
      if 2000000000 ≤ t.fraction then some (s.composeFrame (secondAfter t) s.code.referenceStep) else none
    current := s.code.current.filter fun f => f.second = BitVec.ofNat 40 t.seconds }

/-- The frames at the top of second that begins ensemble second `e` (R151). -/
def CodeComposer.move (c : CodeComposer) (e : Nat) : CodeComposer :=
  { c with current := c.pendingFrame.filter fun f => f.second = BitVec.ofNat 40 e, pendingFrame := none }

end Sys2Proof.Machine
end

