-- ==== Sys2Proof/Machine/Outputs.lean ====
section
/-! DEFINITION. The Output Unit (Chapter 7): gate and pair phases at completions and tops of second, pulses, trains, mutes,
and what a step and the entry into FAULT do to the lines. -/

namespace Sys2Proof.Machine

/-! ## Edges -/

/-- Qns from the top of second to the rise of train pulse `k` (R136). -/
def trainRise (rate k : Nat) : Nat := k * 4000000000 / rate

/-- Qns from the top of second to the fall of train pulse `k` (R136). -/
def trainFall (rate k : Nat) : Nat := (2 * k + 1) * 2000000000 / rate

/-- The first train pulse that rises after a fraction of the second. -/
def nextPulseAfter (rate fraction : Nat) : Nat := ceilDiv ((fraction + 1) * rate) 4000000000

/-- The channel with a pulse that rises at the top of second `top`, unless its line is high (R135). -/
def Channel.risePulse (c : Channel) (top : Timestamp) (widthMs : Nat) : Channel :=
  if c.high then c else { c with high := true, pulseEnd := some (top.plus (widthMs * Config.qnsPerMs : Nat)) }

/-- The channel with train edge 0 at the top of second `top` (R136). -/
def Channel.riseTrain (c : Channel) (top : Timestamp) (rate : Nat) : Channel :=
  { c with high := true, edge := some { reading := top.plus (trainFall rate 0), rising := false, index := 0 } }

/-- The channel when its named train edge is taken (R136); `goesOn` says that it may rise again. -/
def Channel.takeEdge (c : Channel) (rate : Nat) (goesOn : Bool) : Channel :=
  match c.edge with
  | none => c
  | some x =>
    let top := x.reading.secondStart
    if x.rising then
      if goesOn then
        { c with high := true, edge := some { reading := top.plus (trainFall rate x.index), rising := false, index := x.index } }
      else { c with edge := none }
    else
      { c with
        high := false
        edge :=
          if goesOn && decide (x.index + 1 < rate) then
            some { reading := top.plus (trainRise rate (x.index + 1)), rising := true, index := x.index + 1 }
          else none }

/-! ## Mutes (R134, R153) -/

/-- The reading at which the symbol in progress falls, if its high is in progress (R153). A slot of the current
frame holds only readings of the second that the frame describes (R147). -/
def State.symbolTail (s : State) : Option Timestamp :=
  let t := s.clock.reading
  match s.code.current with
  | none => none
  | some f =>
    if f.highAt t then
      some (t.secondStart.plus (t.fraction / slotQns * slotQns + f.highTimeAt t.fraction : Nat))
    else none

/-- A train that a mute stops: a high in progress completes, no further rise follows (R134). -/
def Channel.muteTrain (c : Channel) : Channel := { c with edge := if c.high then c.edge else none }

/-- The channel of an unpaired output that a completion finds active or not (Table 7-5, R134, R153). -/
def Channel.evaluate (c : Channel) (mode : OutMode) (active : Bool) (tail : Option Timestamp) : Channel :=
  match mode with
  | .off | .lamp => c
  | .pulse | .train | .code =>
    if active then (if c.phase = .muted then { c with phase := .armed } else c)
    else if c.phase = .running then
      match mode with
      | .train => { c.muteTrain with phase := .muted }
      | .code => { c with phase := .muted, tail := tail }
      | .off | .lamp | .pulse => { c with phase := .muted }
    else { c with phase := .muted }

/-- The pair phase at a completion (Table 7-6, R140, R141). -/
def PairState.evaluate (p : PairState) (active : Bool) : PairState :=
  match p.phase, active with
  | .idle, true => { p with phase := .armed }
  | .idle, false => p
  | .armed, true => p
  | .armed, false => { p with phase := .idle }
  | .lead, true => p
  | .lead, false => { phase := .closing, resume := false, closingTop := none }
  | .both, true => p
  | .both, false => { phase := .closing, resume := false, closingTop := none }
  | .closing, true => { p with resume := true }
  | .closing, false => { p with resume := false }

/-- The channels at a completion: unpaired ones by Table 7-5; the train of a pair that begins to close is stopped. -/
def State.evaluateChannel (s : State) (k : Fin 4) (c : Channel) : Channel :=
  if s.paired k then
    if (k = 0 ∨ k = 2) ∧ ¬ s.activePair k then c.muteTrain else c
  else c.evaluate (s.outSetting k).mode (s.activeAlone k) s.symbolTail

/-- The Output Unit's evaluation of the active condition at a completion (R132). -/
def State.evaluateOutputs (s : State) : State :=
  s.setOuts { s.outs with
    channels := vmapIdx s.evaluateChannel s.outs.channels
    first := if s.firstPaired then s.outs.first.evaluate (s.activePair 0) else s.outs.first
    second := if s.secondPaired then s.outs.second.evaluate (s.activePair 2) else s.outs.second }

/-! ## Tops of second (R133, R139 to R141, R151) -/

/-- The gate phase after a top of second (Table 7-5). -/
def GatePhase.atTop : GatePhase → GatePhase
  | .muted => .muted
  | .armed => .running
  | .running => .running

/-- An unpaired channel at a top of second (R133, R151): it begins its pulse, its train or its frame only while active
(R132). -/
def Channel.atTop (c : Channel) (set : OutSetting) (active : Bool) (top : Timestamp) : Channel :=
  match set.mode with
  | .off | .lamp => c
  | .pulse =>
    let c1 := { c with phase := c.phase.atTop }
    if active ∧ c1.phase = .running then c1.risePulse top set.width else c1
  | .train =>
    let c1 := { c with phase := c.phase.atTop }
    if active ∧ c1.phase = .running then c1.riseTrain top (trainRate set.rate) else c1
  | .code =>
    if active ∧ c.phase ≠ .muted then { c with phase := .running, tail := none } else c

/-- The pair phase after the top of second `top` (Table 7-6, R140, R141). The closing top is the one at which the closing
marker rises, so a top that finds the marker's line still high (`high`, R135) leaves the closing top to come. -/
def PairState.atTop (p : PairState) (high : Bool) (top : Timestamp) : PairState :=
  match p.phase with
  | .idle => p
  | .armed => { p with phase := .lead }
  | .lead => { p with phase := .both }
  | .both => p
  | .closing =>
    match p.closingTop with
    | none => if high then p else { p with closingTop := some top }
    | some t =>
      if t = top then p
      else if p.resume then { phase := .lead, resume := false, closingTop := none }
      else { phase := .idle, resume := false, closingTop := none }

/-- Whether the closing marker is still to rise (R140). -/
def PairState.closesAt (p : PairState) : Bool := decide (p.phase = .closing) && p.closingTop.isNone

/-- Whether a pair's marker pulses at a top that leaves it in this phase, apart from the closing marker (R139). -/
def PairPhase.marks : PairPhase → Bool
  | .lead | .both => true
  | .idle | .armed | .closing => false

/-- The level of the marker of the pair of OUT`k` (R138). -/
def State.markerHigh (s : State) (k : Fin 4) : Bool := if k.val < 2 then s.outs.channels[1].high else s.outs.channels[3].high

/-- The channel of a paired output at a top of second that takes the pair from `p` to `p'`: the marker and the train begin
only while the pair is active, apart from the closing marker (R132, R139, R140). -/
def Channel.pairedAtTop (c : Channel) (set : OutSetting) (isTrain active : Bool) (p p' : PairState) (top : Timestamp) :
    Channel :=
  if isTrain then
    if active && decide (p'.phase = .both) then c.riseTrain top (trainRate set.rate) else c
  else if p.closesAt || (active && p'.phase.marks) then c.risePulse top set.width
  else c

/-- A channel at a top of second. -/
def State.channelAtTop (s : State) (top : Timestamp) (k : Fin 4) (c : Channel) : Channel :=
  if s.paired k then
    c.pairedAtTop (s.outSetting k) (decide (k = 0 ∨ k = 2)) (s.activePair k) (s.pairOf k)
      ((s.pairOf k).atTop (s.markerHigh k) top) top
  else c.atTop (s.outSetting k) (s.activeAlone k) top

/-- The Output Unit at a top of second raised by the clock, the lamp latch included (R133, R139, R143). -/
def State.outputsAtTop (s : State) (top : Timestamp) : State :=
  s.setOuts { s.outs with
    channels := vmapIdx (s.channelAtTop top) s.outs.channels
    first := if s.firstPaired then s.outs.first.atTop (s.markerHigh 0) top else s.outs.first
    second := if s.secondPaired then s.outs.second.atTop (s.markerHigh 2) top else s.outs.second
    lampLatch := s.config.envelopes s.steer.nodeState }

/-! ## Steps (R135, R137, R152) -/

/-- Whether the train on OUT`k` goes on: it is RUNNING, or its pair is in BOTH. -/
def State.trainRuns (s : State) (k : Fin 4) : Bool :=
  if s.paired k then decide ((s.pairOf k).phase = .both) else decide (s.outs.channels[k].phase = .running)

/-- The first rise of a train after a reading within the reading's second; later rises are left to the next top of second
(R137, item 3). -/
def firstRiseAfter (rate : Nat) (t : Timestamp) : Option TrainEdge :=
  let k := nextPulseAfter rate t.fraction
  if k < rate then some { reading := t.secondStart.plus (trainRise rate k), rising := true, index := k } else none

/-- A channel under a step of `c` that has taken the reading to `t`: a pulse end moves with the step, a train's high falls
and its next edge is named afresh, and a symbol that a mute left in progress ends. The gate phase stays: a train muted with its
high in progress and armed again since stays ARMED (DESIGN CHOICE, log entry 37). -/
def Channel.onStep (ch : Channel) (mode : OutMode) (rate : Nat) (runs : Bool) (c : Int) (t : Timestamp) : Channel :=
  match mode with
  | .train => { ch with high := false, edge := if runs then firstRiseAfter rate t else none }
  | .off | .pulse | .lamp | .code => { ch with pulseEnd := ch.pulseEnd.map fun e => e.plus c, tail := none }

/-- The Output Unit under a step of `c` that has taken the reading to where it now stands. -/
def State.outputsOnStep (s : State) (c : Int) : State :=
  s.setOuts { s.outs with
    channels := vmapIdx
      (fun k ch => ch.onStep (s.outSetting k).mode (trainRate (s.outSetting k).rate) (s.trainRuns k) c s.clock.reading)
      s.outs.channels }

/-! ## FAULT (R142, R144) -/

/-- A channel at the entry into FAULT: cut low, muted, nothing named, and a lamp dark until the next monitor top. -/
def Channel.onFault (_ : Channel) : Channel :=
  { phase := .muted, high := false, pulseEnd := none, edge := none, tail := none, dark := true }

/-- The Output Unit at the entry into FAULT. -/
def OutputUnit.onFault (o : OutputUnit) : OutputUnit :=
  { channels := vmap Channel.onFault o.channels, first := PairState.reset, second := PairState.reset,
    lampLatch := o.lampLatch, clockTiming := false }

/-- The lamp latch at a monitor top (R144). -/
def State.latchLamps (s : State) : State :=
  s.setOuts { s.outs with
    lampLatch := s.config.envelopes s.steer.nodeState
    channels := vmap (fun c => { c with dark := false }) s.outs.channels }

end Sys2Proof.Machine
end

