-- ==== Sys2Proof/Machine/Peers.lean ====
section
/-! DEFINITION. The Peer Table (Chapter 3): what an accepted copy does to its slot, the close work, the completion work,
and what a step does to the copies held. -/

namespace Sys2Proof.Machine

/-! ## Windows (R52, R53) -/

/-- The filtered delay: the smallest value in a window, absent while it is empty (R52). -/
def filteredDelay (w : List Sample) : Option Nat := (w.map (·.value)).min?

/-- A sample joins a window of at most 8, the oldest leaving first (R52). -/
def joinWindow (w : List Sample) (x : Sample) : List Sample := w.drop (w.length - 7) ++ [x]

/-- A completion ages a sample, and removes it where its age would be 33 (R53). -/
def Sample.grow (x : Sample) : Option Sample :=
  match x.age with
  | none => if x.closed then some { x with age := some 0 } else some x
  | some a => if a < 32 then some { x with age := some (a + 1) } else none

/-- A close has come since the sample joined (R53). -/
def Sample.close (x : Sample) : Sample := { x with closed := true }

/-! ## Delay samples (R50, R51) -/

/-- The entry of an own transmit history that an echoed round names (R37). -/
def searchHistory (h : List HistoryEntry) (round16 : BitVec 4) : Option HistoryEntry :=
  h.find? fun x => x.round.extractLsb' 0 4 = round16

/-- The stamp t2 rebuilt from an echo entry and the sender's tx seconds (R51, step 1). -/
def Echo.stamp (x : Echo) (txSeconds : BitVec 40) : Timestamp :=
  WireStamp.toTimestamp
    { seconds := txSeconds - ((txSeconds - x.seconds.setWidth 40) &&& 255#40), nanos := x.nanos, quarter := x.quarter }

/-- The raw sample of four stamps (R51, step 3). -/
def rawDelay (t1 t2 t3 t4 : Timestamp) : Int := halfEven (t4.diff t1 - t3.diff t2) 2

/-- The max delay in qns (R47). -/
def ConfigRecord.maxDelayQns (c : ConfigRecord) : Nat := c.maxDelay * Config.qnsPerUs

/-- The delay outcome of a copy, and the sample it yields (R50, R51). -/
def delayOf (c : ConfigRecord) (h : List HistoryEntry) (x : Copy) : DelayOutcome × Option Nat :=
  match x.ownEcho with
  | none => (.noEcho, none)
  | some e =>
    if x.stepped then (.stepped, none)
    else
      match searchHistory h e.round16 with
      | none => (.missing, none)
      | some entry =>
        if !entry.valid then (.invalidated, none)
        else
          let raw := rawDelay entry.tx (e.stamp x.tx.seconds) x.tx.toTimestamp x.ingress
          if raw < 0 then (.clamped, some 0)
          else if (c.maxDelayQns : Int) < raw then (.overMax, none)
          else (.added, some raw.toNat)

/-- Whether an outcome discards the sample, and so moves the discarded-sample counter (R50, R51). -/
def DelayOutcome.discards : DelayOutcome → Bool
  | .stepped | .missing | .invalidated | .overMax => true
  | .added | .clamped | .noEcho => false

/-- Whether a sample is congested against the filtered delay before it joins (R54). -/
def congestedBy (c : ConfigRecord) (d : Option Nat) (sample : Nat) : Bool :=
  match d with
  | none => false
  | some d => decide (d + 4 * c.congestion < sample)

/-- The offset estimate of a copy for a filtered delay (R55, R87): (t3 + D) - t4. -/
def Copy.fullWidth (x : Copy) (d : Nat) : Int := (x.tx.toTimestamp.plus d).diff x.ingress

/-- Whether an estimate exceeds the offset bound in a node state in which the bound applies (R55, R56). -/
def outOfBound (st : NodeState) (v : Int) : Bool := decide (st ≠ .listen) && decide (Config.estimateBound < |v|)

/-- The copy with an estimate judged against the offset bound (R55, R56). -/
def Copy.withEstimate (x : Copy) (st : NodeState) (v : Int) : Copy :=
  if outOfBound st v then { x with estimate := none, bounded := true } else { x with estimate := some v }

/-- The copy after echo processing, gate and estimate, on a port whose window was `w`, with the window after it
(R50 to R55). -/
def Copy.process (x : Copy) (c : ConfigRecord) (st : NodeState) (h : List HistoryEntry) (w : List Sample) :
    Copy × List Sample :=
  let d := delayOf c h x
  let w' := match d.2 with
    | none => w
    | some v => joinWindow w { round := x.attributed, value := v, age := none, closed := false }
  let x1 := { x with
    outcome := d.1, checked := d.2.isSome,
    congested := match d.2 with
      | none => false
      | some v => congestedBy c (filteredDelay w) v }
  match filteredDelay w' with
  | none => (x1, w')
  | some d => (x1.withEstimate st (x1.fullWidth d), w')

/-- Liveness on acceptance (R49): `joined` says that a sample of this copy joined, `nonempty` that a window holds one. -/
def Liveness.onAccept (l : Liveness) (joined nonempty : Bool) : Liveness :=
  match l with
  | .vacant | .silent => if nonempty then .active else .heard
  | .heard => if joined then .active else .heard
  | .active => .active

/-- The accepted-copy counter of a port (Table 3-6). -/
def acceptedCounter : PortId → SlotCounter
  | .a => .acceptedA
  | .b => .acceptedB

/-- What an accepted copy does to its sender's slot (R48). -/
def Slot.accept (x : Slot) (c : ConfigRecord) (st : NodeState) (h : List HistoryEntry) (p : PortId) (copy : Copy) : Slot :=
  let r := copy.process c st h (x.windows.get p)
  let windows := x.windows.set r.2 p
  let x1 := { x with
    current := x.current.set (some r.1) p
    windows := windows
    liveness := x.liveness.onAccept r.1.checked (!windows.a.isEmpty || !windows.b.isEmpty) }
  ((((x1.bump (acceptedCounter p)).bumpIf r.1.outcome.discards .discarded).bumpIf
    (decide (r.1.outcome = .clamped)) .negative).bumpIf r.1.congested .congested).bumpIf r.1.bounded .outOfRange

/-! ## Steps (R56) -/

/-- A held copy's estimate under a step of `c` (R56, items 1 and 2): the bound is judged on the exact difference. Where no
bound applies (LISTEN) and the difference is no 64-bit number, the spec states no result and the estimate is a free value
(DESIGN CHOICE, log entry 14). -/
def Copy.adjust (x : Copy) (st : NodeState) (c : Int) : Copy :=
  match x.estimate with
  | none => x
  | some v =>
    if outOfBound st (v - c) then { x with estimate := none, bounded := true } else { x with estimate := some (int64 (v - c)) }

/-- A copy held in a current-round position under a step of `c` to the reading `t`, the node state being `st` (R56). -/
def Copy.onStep (x : Copy) (cfg : ConfigRecord) (st : NodeState) (c : Int) (t : Timestamp) : Copy :=
  let x1 := x.adjust st c
  match x.kind with
  | .named => x1
  | .nextClose => { x1 with attributed := roundOfClose cfg (nextClose cfg t) }

/-- Whether a step makes a copy's estimate absent by the offset bound. -/
def Copy.lostByStep (x : Copy) (st : NodeState) (c : Int) : Bool :=
  match x.estimate with
  | none => false
  | some v => outOfBound st (v - c)

/-- Whether a held copy, if there is one, loses its estimate. -/
def lostByStep (x : Option Copy) (st : NodeState) (c : Int) : Bool := x.any (·.lostByStep st c)

/-- A slot under a step (R56). -/
def Slot.onStep (x : Slot) (cfg : ConfigRecord) (st : NodeState) (c : Int) (t : Timestamp) : Slot :=
  ({ x with current := x.current.map fun o => o.map (Copy.onStep · cfg st c t) }.bumpIf
    (lostByStep x.current.a st c) .outOfRange).bumpIf (lostByStep x.current.b st c) .outOfRange

/-! ## The close (R57 to R59) -/

/-- A copy is a candidate for the lane when it carries an estimate and is not congested (R58). -/
def Copy.candidate (x : Copy) : Bool := x.estimate.isSome && !x.congested

/-- Whether the smaller of two optional filtered delays is the second (R58, item 2). -/
def smallerDelay (da db : Option Nat) : Bool :=
  match da, db with
  | some a, some b => decide (b < a)
  | none, some _ => true
  | _, none => false

/-- Whether port B's copy is preferred to port A's (R58). -/
def prefersB (a b : Copy) (da db : Option Nat) : Bool :=
  if a.checked = b.checked then smallerDelay da db else b.checked

/-- The copy that R58's order of preference chooses among the copies that are admitted, with its port. -/
def chooseCopy (fits : PortId → Copy → Bool) (copies : Pair (Option Copy)) (d : Pair (Option Nat)) :
    Option (PortId × Copy) :=
  match copies.a.filter (fits .a), copies.b.filter (fits .b) with
  | none, none => none
  | some a, none => some (.a, a)
  | none, some b => some (.b, b)
  | some a, some b => if prefersB a b d.a d.b then some (.b, b) else some (.a, a)

/-- The filtered delays of a slot. -/
def Slot.delays (x : Slot) : Pair (Option Nat) := x.windows.map filteredDelay

/-- The lane a slot selects from its round copies (R58). -/
def Slot.selectLane (x : Slot) : Option Lane :=
  match chooseCopy (fun _ c => c.candidate) x.round x.delays with
  | none => none
  | some (p, c) => c.estimate.map fun v => { value := v, port := p, status := c.status }

/-- A current-round copy becomes a round copy when it is attributed to the round that closes (R57). -/
def takenBy (round : BitVec 32) (o : Option Copy) : Option Copy := o.filter fun c => c.attributed = round

/-- The previous-round ingress stamp a round copy leaves (R57, item 4). -/
def prevOf (o : Option Copy) : Option PrevStamp :=
  o.map fun c => { stamp := c.ingress, round := c.roundField, step := c.ingressStep }

/-- A slot at the close of a round (R57, R58). -/
def Slot.close (x : Slot) (round : BitVec 32) : Slot :=
  let taken := x.current.map (takenBy round)
  let x1 := { x with
    round := taken, current := ⟨none, none⟩, prev := taken.map prevOf,
    windows := x.windows.map fun w => w.map Sample.close }
  { x1 with lane := x1.selectLane }

/-- Whether a slot's two checked candidates differ by more than the port skew bound (R59). -/
def Slot.skewed (x : Slot) (c : ConfigRecord) : Bool :=
  match x.round.a, x.round.b with
  | some a, some b =>
    a.checked && b.checked && a.candidate && b.candidate &&
      (match a.estimate, b.estimate with
        | some va, some vb => decide ((c.portSkew : Int) < |va - vb|)
        | _, _ => false)
  | _, _ => false

/-! ## Completion (R60 to R65) -/

/-- Whether a close took a round copy of the slot. -/
def Slot.heardFrom (x : Slot) : Bool := x.round.a.isSome || x.round.b.isSome

/-- A slot that becomes VACANT (R61). -/
def Slot.vacate (x : Slot) : Slot :=
  { x with
    liveness := .vacant, suspect := false, windows := ⟨[], []⟩, round := ⟨none, none⟩, prev := ⟨none, none⟩, lane := none,
    misses := 0, trims := 0, agreements := 0,
    verdict := { x.verdict with ahead := false, behind := false, level := false } }

/-- Misses, and the liveness moved by them (R61). -/
def Slot.countMiss (x : Slot) : Slot :=
  if x.liveness = .vacant then x
  else
    let m := if x.heardFrom then 0 else satSucc 32 x.misses
    let x1 := { x with misses := m }
    if m = 32 then x1.vacate
    else if 3 ≤ m ∧ (x.liveness = .heard ∨ x.liveness = .active) then { x1 with liveness := .silent }
    else x1

/-- Trims of a slot that is not suspect (R62); `mark` is whether its lane was kept in the set used, absent if it was not in
it. -/
def Slot.countTrim (x : Slot) (mark : Option Bool) : Slot :=
  match mark with
  | none => x
  | some true => { x with trims := 0 }
  | some false =>
    let t := satSucc 8 x.trims
    if t = 8 then { x with suspect := true, trims := 0, agreements := 0 } else { x with trims := t }

/-- Agreements of a suspect slot (R63); `c` is the round's correction, absent for a starved or overtaken round; the
difference lane − c is exact. -/
def Slot.countAgreement (x : Slot) (cfg : ConfigRecord) (c : Option Int) : Slot :=
  match c, x.lane with
  | some c, some l =>
    if |l.value - c| ≤ (cfg.band : Int) then
      let n := satSucc 8 x.agreements
      if n = 8 then { x with suspect := false, trims := 0, agreements := 0 } else { x with agreements := n }
    else { x with agreements := 0 }
  | _, _ => x

/-- Suspicion at a completion (R62, R63). -/
def Slot.judge (x : Slot) (cfg : ConfigRecord) (c : Option Int) (mark : Option Bool) : Slot :=
  if x.suspect then x.countAgreement cfg c else x.countTrim mark

/-- Whether a completion sets a slot's SUMMARY flag (R65). -/
def Slot.setsSummary (x : Slot) (mark : Option Bool) : Bool :=
  decide (mark = some false)
    || (x.lane.isNone && x.round.toList.any fun o => o.any fun c => (c.estimate.isSome && c.congested) || c.bounded)

/-- The verdict of a slot that is not VACANT (R64, R65); the difference lane − c is exact. -/
def Slot.writeVerdict (x : Slot) (cfg : ConfigRecord) (c : Option Int) (mark : Option Bool) : Slot :=
  if x.liveness = .vacant then x
  else
    let summary := x.verdict.summary || x.setsSummary mark
    match c, x.lane with
    | some c, some l =>
      let d := l.value - c
      let ahead := decide ((cfg.band : Int) < d)
      let behind := decide (d < -(cfg.band : Int))
      { x with verdict := { ahead := ahead, behind := behind, level := !ahead && !behind, summary := summary } }
    | _, _ => { x with verdict := { ahead := false, behind := false, level := false, summary := summary } }

/-- The samples of a slot age, and an ACTIVE slot left without samples becomes HEARD (R53, R61). -/
def Slot.ageSamples (x : Slot) : Slot :=
  let w := x.windows.map fun l => l.filterMap Sample.grow
  { x with windows := w, liveness := if x.liveness = .active ∧ w.a = [] ∧ w.b = [] then .heard else x.liveness }

/-- The completion work on one slot, in the order of R60, but for its publication. -/
def Slot.complete (x : Slot) (cfg : ConfigRecord) (c : Option Int) (mark : Option Bool) : Slot :=
  (((({ x with lastLane := x.lane }).countMiss.judge cfg c mark).writeVerdict cfg c mark).ageSamples)

/-- The slot as published: without its current-round copies (R67). -/
def Slot.publish (x : Slot) : Slot := { x with current := ⟨none, none⟩ }

/-- A CLEAR that names the slot (R68). -/
def Slot.clear (x : Slot) : Slot :=
  { x with verdict := { x.verdict with summary := false }, counters := Vector.replicate 10 0 }

/-! ## The whole table -/

/-- What the Round Engine reports of each slot (R89): the ids kept and the ids trimmed of the set used. -/
structure PeerReport where
  correction : Option Int
  kept       : List (Fin 16)
  trimmed    : List (Fin 16)
  deriving DecidableEq, Repr

/-- The mark of one slot in a peer report. -/
def PeerReport.mark (r : PeerReport) (i : Fin 16) : Option Bool :=
  if r.kept.contains i then some true else if r.trimmed.contains i then some false else none

/-- The slots after a completion (R60). -/
def completeSlots (cfg : ConfigRecord) (r : PeerReport) (v : Vector Slot 16) : Vector Slot 16 :=
  vmapIdx (fun i x => x.complete cfg r.correction (r.mark i)) v

/-- Whether a completion makes some slot suspect (R62). -/
def newSuspect (before after : Vector Slot 16) : Bool :=
  (List.finRange 16).any fun i => !before[i].suspect && after[i].suspect

/-- The completion work of the Peer Table (R60, R62, R67). -/
def State.completePeers (s : State) (round : BitVec 32) (r : PeerReport) : State :=
  let slots := completeSlots s.config r s.slots
  ((s.setSlots slots).setPublished { round := some round, slots := vmap Slot.publish slots }).reportIf
    (newSuspect s.slots slots) .suspect

/-- The close work of the Peer Table (R57 to R59). -/
def State.closePeers (s : State) (round : BitVec 32) : State :=
  let slots := vmap (·.close round) s.slots
  (s.setSlots slots).reportIf (slots.toList.any (·.skewed s.config)) .portSkew

end Sys2Proof.Machine
end

