-- ==== Sys2Proof/Machine/Orders.lean ====
section
/-! DEFINITION. What the Node Clock does under steering orders (R8 to R14): rate steps, slews and their settlement, and the
STEP, with all that a step does in the other blocks. -/

namespace Sys2Proof.Machine

/-! ## Rate steps (R8) -/

/-- The rate adjustment after a rate step (R8). -/
def rateAfter (rate step : Int) : Int := clampTo Config.rateLimit (rate + step)

/-- The at-limit indication of a rate adjustment (R8). -/
def atLimit (rate : Int) : Bool := decide (rate = Config.rateLimit) || decide (rate = -Config.rateLimit)

/-! ## Slews (R10 to R12) -/

/-- The slew in progress is completed: its remainder passes into the reading at once, and the record is emptied (R11,
R12). -/
def State.settleSlew (s : State) : State :=
  match s.clock.slew with
  | none => s
  | some w =>
    let rest := w.amount - w.delivered
    (s.setClock { s.clock with reading := s.clock.reading.plus rest, slew := none }).setRef (s.ref.correct rest)

/-- The slew record of a slew of `amount` that begins at a reading (R10). -/
def newSlew (c : ConfigRecord) (amount : Int) (t : Timestamp) : Option Slew :=
  if amount = 0 then none
  else some
    { amount := amount, delivered := 0, residue := 0, term := 250000 * amount / (c.roundMs : Int),
      finish := t.plus (c.roundQns : Nat) }

/-- A slew begins (R10). -/
def State.beginSlew (s : State) (amount : Int) : State :=
  s.setClock { s.clock with slew := newSlew s.config amount s.clock.reading }

/-! ## Steps -/

/-- The Node Clock under a step (R13, items 1 to 3), the regular instants named afresh from the stepped reading (R7). -/
def State.jump (s : State) (c : Int) : State :=
  let t := s.clock.reading.plus c
  s.setClock { s.clock with
    reading := t, slew := none, stepCount := s.clock.stepCount + 1#8, named := s.namedFrom t }

/-- Every own transmit history entry of a port made invalid (R37). -/
def LinkPort.invalidate (p : LinkPort) : LinkPort :=
  { p with history := p.history.map fun h => { h with valid := false } }

/-- The last REF offset wrapped into half a second either way (R120). -/
def wrapOffset (x : Int) : Int := (x + 2000000000) % 4000000000 - 2000000000

/-- The Reference Unit under a step of `c` (R116, R120, R123). -/
def RefUnit.onStep (r : RefUnit) (c : Int) : RefUnit :=
  { r.correct c with
    lastOffset := r.lastOffset.map fun o => wrapOffset (o - c)
    pendingTime := r.pendingTime.map fun a => { a with expiry := a.expiry.plus c } }

/-- The Steering Controller's leap guard and leap under a step of `c` from the reading `t` (R125, R127). A leap that a forward
step jumps over is carried out at the step, under the UTC values as they then stand: R98 and R124 set them before it (log
entry 9). -/
def Steering.onStep (x : Steering) (t : Timestamp) (c : Int) : Steering :=
  if 0 < c ∧ x.utc.leapJumped t c then
    { x with utc := x.utc.leap, leapGuard := some ((t.plus c).plus (2 * Config.qnsPerSecond : Nat)) }
  else { x with leapGuard := x.leapGuard.map fun g => g.plus c }

/-- A close in flight is overtaken by a step (R73). -/
def RoundEngine.overtake (r : RoundEngine) : RoundEngine :=
  { r with flight := r.flight.map fun f => { f with overtaken := true } }

/-- A STEP of `c` and all that comes with it (R13, R37, R56, R73, R116, R120, R123, R125, R127, R135, R137, R152). -/
def State.takeStep (s : State) (c : Int) : State :=
  let t := s.clock.reading
  let s1 := (s.jump c).report .stepped
  let s2 := s1.setPorts (s1.ports.map LinkPort.invalidate)
  let s3 := s2.setSlots (vmap (fun x => x.onStep s.config s.steer.nodeState c s1.clock.reading) s2.slots)
  let s4 := s3.setRef (s3.ref.onStep c)
  let s5 := s4.setSteer (s4.steer.onStep t c)
  let s6 := s5.setRound s5.round.overtake
  (s6.outputsOnStep c).codeOnStep

/-! ## Orders (R9) -/

/-- A steering order (R9). -/
structure Order where
  rateStep : Option Int
  action   : Action
  deriving DecidableEq, Repr

/-- Step 1 of R9: a SLEW settles the slew in progress; a STEP cancels it in its own work; a HOLD leaves it. -/
def State.settleFor (s : State) (a : Action) : State :=
  match a with
  | .slew _ => s.settleSlew
  | .step _ => s.setClock { s.clock with slew := none }
  | .hold => s

/-- Step 2 of R9: the rate step, if the order carries one (R8). -/
def State.applyRate (s : State) (r : Option Int) : State :=
  match r with
  | none => s
  | some d => s.setClock { s.clock with rate := rateAfter s.clock.rate d }

/-- Step 3 of R9: the action. -/
def State.act (s : State) (a : Action) : State :=
  match a with
  | .slew amount => s.beginSlew amount
  | .step c => s.takeStep c
  | .hold => s

/-- A steering order is taken (R9), in the states that take orders. -/
def State.takeOrder (s : State) (o : Order) : State :=
  if s.steer.nodeState.running then ((s.settleFor o.action).applyRate o.rateStep).act o.action else s

end Sys2Proof.Machine
end

