-- ==== Sys2Proof/Machine/Reference.lean ====
section
/-! DEFINITION. The Reference Unit (Chapter 6): pulses and qualification, the REF offset, misses, distrust, and the pending
anchor time. -/

namespace Sys2Proof.Machine

/-- Whether the Reference Unit acts: REF is enabled and the node is in a running state (R115). -/
def State.refActs (s : State) : Bool := s.config.refEnable && s.running

/-- The Reference Unit changed; the host-timescale flag is cleared where the REF state leaves VALID (R125). -/
def State.setRefUnit (s : State) (r : RefUnit) : State :=
  let s1 := s.setRef r
  if s.ref.state = .valid ∧ r.state ≠ .valid then s1.setSteer { s1.steer with hostTimescale := false } else s1

/-- The corrected elapsed time at a reading, absent without a last pulse stamp (R116). -/
def RefUnit.elapsedAt (r : RefUnit) (t : Timestamp) : Option Int :=
  r.lastPulse.map fun p => t.diff p - r.correction

/-- Whether a pulse stamped `t` is on time: within k s plus or minus 100 us (R116). -/
def RefUnit.onTime (r : RefUnit) (t : Timestamp) : Bool :=
  match r.elapsedAt t with
  | none => false
  | some x => decide (|x - ((r.missCount + 1) * Config.qnsPerSecond : Nat)| ≤ 400000)

/-- The REF offset of a stamp (R120). -/
def refOffsetOf (t : Timestamp) : Int :=
  if t.fraction ≤ 2000000000 then -(t.fraction : Int) else 4000000000 - (t.fraction : Int)

/-- The REF offset measured and marked fresh (R120). -/
def RefUnit.measure (r : RefUnit) (t : Timestamp) : RefUnit := { r with lastOffset := some (refOffsetOf t), fresh := true }

/-- The unit back to ABSENT (R119). -/
def RefUnit.lose (r : RefUnit) : RefUnit :=
  { r with state := .absent, qualCount := 0, missCount := 0, outside := 0, inside := 0, lastPulse := none,
           lastOffset := none, fresh := false }

/-- How a pulse stamped `t` moves the unit, before its stamp is kept (R117, R118). -/
def RefUnit.judgePulse (r : RefUnit) (t : Timestamp) : RefUnit :=
  match r.state with
  | .absent => { r with state := .qualifying, qualCount := 0 }
  | .qualifying =>
    if !r.onTime t then { r with qualCount := 0 }
    else if r.qualCount < 3 then { r with qualCount := r.qualCount + 1 }
    else { r with state := .valid, qualCount := 0 }.measure t
  | .valid | .distrusted =>
    if r.onTime t then { r with missCount := 0 }.measure t
    else
      { r with state := .qualifying, qualCount := 0, missCount := 0, outside := 0, inside := 0,
               lastOffset := none, fresh := false }

/-- Whether a pulse loses the reference: off time in VALID or DISTRUSTED (R118). -/
def RefUnit.pulseLoses (r : RefUnit) (t : Timestamp) : Bool :=
  (decide (r.state = .valid) || decide (r.state = .distrusted)) && !r.onTime t

/-- The stamp of a judged pulse becomes the last pulse stamp (R116). -/
def RefUnit.keepStamp (r : RefUnit) (t : Timestamp) : RefUnit := { r with lastPulse := some t, correction := 0 }

/-! ## The pending anchor time (R123, R124) -/

/-- The own second of a pulse: the whole second nearest its stamp (R124). -/
def ownSecond (t : Timestamp) : Nat := (t.plus (refOffsetOf t)).seconds

/-- The Steering Controller takes an anchor time's values (R124). -/
def Steering.adopt (x : Steering) (u : UtcValues) : Steering :=
  { x with epochKnown := true, utc := u, hostTimescale := true }

/-- The pending anchor time applied at a pulse stamped `t` (R124). -/
def State.applyAnchor (s : State) (t : Timestamp) : State :=
  match s.ref.pendingTime with
  | none => s
  | some a =>
    let s1 := s.setRef { s.ref with pendingTime := none }
    let same := a.seconds.toNat = ownSecond t
    if s.steer.epochKnown then
      if same then s1.setSteer (s.steer.adopt a.utc) else s1.report .refConflict
    else
      let s2 := s1.setSteer (s.steer.adopt a.utc)
      if same then s2
      else s2.takeStep (((a.seconds.toNat : Int) - (ownSecond t : Int)) * (Config.qnsPerSecond : Int))

/-- A pulse on REF (R116 to R118, R120, R124). -/
def State.takePulse (s : State) : State :=
  let t := s.clock.reading
  let r := (s.ref.judgePulse t).keepStamp t
  let s1 := (s.setRefUnit r).reportIf (s.ref.pulseLoses t) .refLost
  if r.state = .valid then s1.applyAnchor t else s1

/-! ## Misses (R119) -/

/-- By how much the corrected elapsed time at this reading lies beyond the miss instant, while one is named (R119). -/
def State.pastMiss (s : State) : Option Int :=
  if s.refActs ∧ s.ref.state ≠ .absent then
    (s.ref.elapsedAt s.clock.reading).map fun x => x - ((s.ref.missCount + 1) * Config.qnsPerSecond + 400000 : Nat)
  else none

/-- Whether the miss instant has been reached (R119). -/
def State.missReached (s : State) : Bool := s.pastMiss.any fun d => decide (0 ≤ d)

/-- The miss instant (R119). -/
def State.takeMiss (s : State) : State :=
  match s.ref.state with
  | .absent => s
  | .qualifying => s.setRef { s.ref with state := .absent, qualCount := 0, lastPulse := none }
  | .valid | .distrusted =>
    if s.ref.missCount = 0 then s.setRef { s.ref with missCount := 1 }
    else (s.setRefUnit s.ref.lose).report .refLost

/-! ## Distrust (R121, R122) -/

/-- Whether a REF offset lies inside a peer range widened by the split bound (R121). -/
def insideRange (c : ConfigRecord) (g : Range) (r : Int) : Bool :=
  decide (g.low - (c.splitBound : Int) ≤ r) && decide (r ≤ g.high + (c.splitBound : Int))

/-- The unit after a judged round (R121, R122); `selected` is REF selected at the close. -/
def RefUnit.judgeRound (r : RefUnit) (isInside selected : Bool) : RefUnit :=
  match r.state with
  | .absent | .qualifying => r
  | .valid =>
    if !selected || isInside then { r with outside := 0 }
    else if satSucc 8 r.outside = 8 then { r with state := .distrusted, outside := 0, inside := 0 }
    else { r with outside := satSucc 8 r.outside }
  | .distrusted =>
    if !isInside then { r with inside := 0 }
    else if satSucc 8 r.inside = 8 then { r with state := .valid, outside := 0, inside := 0 }
    else { r with inside := satSucc 8 r.inside }

/-- The judgement of a round at its completion (R121, R122): it needs a fresh offset taken at the close and a peer range
that is not starved. -/
def State.judgeReference (s : State) (range : PeerRange) (offset : Option Int) (selected : Bool) : State :=
  match range, offset with
  | .kept g, some r =>
    let u := s.ref.judgeRound (insideRange s.config g r) selected
    (s.setRefUnit u).reportIf (decide (s.ref.state = .valid) && decide (u.state = .distrusted)) .split
  | _, _ => s

/-- The Reference Unit at the entry into FAULT (R115). -/
def RefUnit.onFault (r : RefUnit) : RefUnit :=
  { r with state := .absent, qualCount := 0, missCount := 0, outside := 0, inside := 0, lastPulse := none, fresh := false,
           pendingTime := none }

end Sys2Proof.Machine
end

