-- ==== Sys2Proof/Machine/Round.lean ====
section
/-! DEFINITION. The Round Engine (Chapter 4): the sets of a round, trimming and the mean, the anchored target, rounds steered
by REF, the epoch offer, the round estimate, and the summary begun at the close. -/

namespace Sys2Proof.Machine

/-! ## Candidate lanes and sets (R75 to R78, R86) -/

/-- Whether the round steers by REF (R85). -/
def Flight.byRef (f : Flight) : Bool :=
  decide (f.nodeState = .anchored) || (decide (f.nodeState = .acquire) && f.refSelected)

/-- Whether R77 replaces the epoch condition: LISTEN with the own epoch unknown. -/
def Flight.relaxed (f : Flight) : Bool := decide (f.nodeState = .listen) && !f.epochKnown

/-- A slot's candidate lane, if it offers one (R75, R77). -/
def Flight.candidate (f : Flight) (i : Fin 16) : Option SetLane :=
  let x := f.slots[i]
  match x.lane with
  | none => none
  | some l =>
    if x.liveness = .active ∧ !x.suspect ∧ (f.relaxed ∨ l.status.epochKnown = f.epochKnown) then
      some { value := l.value, id := i, status := some l.status }
    else none

/-- The candidate lanes, by ascending id (R75). -/
def Flight.candidates (f : Flight) : List SetLane := (List.finRange 16).filterMap f.candidate

/-- Whether a lane's sender is settled (R75). -/
def SetLane.settled (x : SetLane) : Bool := x.status.any fun s => s.state.settled

/-- Whether a lane carries epoch known. -/
def SetLane.known (x : SetLane) : Bool := x.status.any fun s => s.epochKnown

/-- The self lane (R75). -/
def selfLane (id : Fin 16) : SetLane := { value := 0, id := id, status := none }

/-- The removal of R77: where any lane carries epoch known, those that do not are removed. -/
def Flight.reduce (f : Flight) (l : List SetLane) : List SetLane :=
  if f.relaxed && l.any SetLane.known then l.filter SetLane.known else l

/-- The settled lanes (R75). -/
def Flight.settledLanes (f : Flight) : List SetLane := f.candidates.filter SetLane.settled

/-- The settled set S (R76). -/
def Flight.setS (f : Flight) (id : Fin 16) : List SetLane :=
  f.reduce f.settledLanes ++ if f.nodeState.settled then [selfLane id] else []

/-- Whether the cold set is considered (R78). -/
def Flight.coldConsidered (f : Flight) (c : ConfigRecord) (id : Fin 16) (quiet : Nat) : Bool :=
  (decide (f.nodeState = .listen) || decide (f.nodeState = .acquire)) && decide ((f.setS id).length < c.quorum)
    && decide (quiet = 16) && !f.byRef

/-- The cold set C (R78). -/
def Flight.setC (f : Flight) (id : Fin 16) : List SetLane :=
  f.reduce f.candidates ++ if f.nodeState = .acquire then [selfLane id] else []

/-- The set used for the round, and which it is (R76, R78, R85). -/
def Flight.used (f : Flight) (c : ConfigRecord) (id : Fin 16) (quiet : Nat) : SetUsed × List SetLane :=
  if f.byRef then
    if c.refEnable ∧ c.quorum ≤ f.settledLanes.length then (.peer, f.settledLanes) else (.none, [])
  else if c.quorum ≤ (f.setS id).length then (.settled, f.setS id)
  else if f.coldConsidered c id quiet ∧ c.quorum ≤ (f.setC id).length then (.cold, f.setC id)
  else (.none, [])

/-- The peer range (R86). -/
def Flight.peerRange (f : Flight) (c : ConfigRecord) : PeerRange :=
  if !c.refEnable then .absent
  else if f.settledLanes.length < c.quorum then .starved
  else
    match rangeOf (keep c.tolerance (sortLanes f.settledLanes)) with
    | none => .starved
    | some g => .kept g

/-! ## The anchored target (R83, R84) -/

/-- The lanes of S whose sender is ANCHORED (R83). -/
def anchoredLanes (l : List SetLane) : List SetLane := l.filter fun x => x.status.any fun s => s.state = .anchored

/-- The anchor class a lane carries. -/
def SetLane.anchorClass (x : SetLane) : Nat := (x.status.map fun s => s.anchorClass.toNat).getD 0

/-- The best anchor class among lanes of ANCHORED senders (R83). -/
def bestClass (l : List SetLane) : Option Nat := (l.map SetLane.anchorClass).min?

/-- What the anchored subset yields: its place in the summary and its target (R83). -/
structure AnchorStage where
  subset : AnchoredSubset
  target : Int
  deriving DecidableEq, Repr

/-- The anchored subset of S and its target, when it is formed (R83). -/
def anchorStage (s : List SetLane) : Option AnchorStage :=
  match bestClass (anchoredLanes s) with
  | none => none
  | some best =>
    let a := sortLanes ((anchoredLanes s).filter fun x => x.anchorClass = best)
    let fa := (a.length - 1) / 2
    let kept := keep fa a
    match rangeOf kept with
    | none => none
    | some g =>
      some
        { subset :=
            { bestClass := BitVec.ofNat 3 best, size := a.length, fa := fa, trimmed := sortIds ((setAside fa a).map (·.id)),
              kept := g }
          target := meanOf kept }

/-- Whether an anchored target is accepted against the kept range of S (R84). -/
def targetAccepted (c : ConfigRecord) (g : Range) (t : Int) : Bool :=
  decide (g.low - (c.splitBound : Int) ≤ t) && decide (t ≤ g.high + (c.splitBound : Int))

/-! ## The epoch offer (R87) -/

/-- An epoch offer (R87). -/
structure EpochOffer where
  mean     : Int
  agreeing : Nat
  utc      : UtcValues
  deriving DecidableEq, Repr

/-- The UTC values of a peer's status, the offset read as two's complement. -/
def PeerStatus.utc (s : PeerStatus) : UtcValues :=
  { offset := s.utcOffset.toInt, pending := s.leapPending, deletion := s.leapDeletion }

/-- Whether a round copy gives a full-width value (R87). -/
def Flight.admits (f : Flight) (x : Slot) (p : PortId) (y : Copy) : Bool :=
  y.status.state.settled && y.status.epochKnown && (x.delays.get p).isSome && !y.congested
    && decide (y.ingressStep = f.stepCount)

/-- A slot's full-width value (R87). -/
def Flight.fullWidthLane (f : Flight) (i : Fin 16) : Option SetLane :=
  let x := f.slots[i]
  if x.liveness = .active ∧ !x.suspect then
    match chooseCopy (f.admits x) x.round x.delays with
    | none => none
    | some (p, y) => (x.delays.get p).map fun d => { value := y.fullWidth d, id := i, status := some y.status }
  else none

/-- The epoch set (R87). -/
def Flight.epochSet (f : Flight) : List SetLane := (List.finRange 16).filterMap f.fullWidthLane

/-- How many lanes carry the same UTC values. -/
def countUtc (l : List SetLane) (u : UtcValues) : Nat := (l.filter fun x => decide ((x.status.map PeerStatus.utc) = some u)).length

/-- The UTC values that the largest number of lanes carry; on a tie those of the lowest id (R87). The lanes stand by
ascending id. -/
def commonUtc (l : List SetLane) : UtcValues :=
  let us := l.filterMap fun x => x.status.map PeerStatus.utc
  (us.find? fun u => us.all fun v => decide (countUtc l v ≤ countUtc l u)).getD ⟨0, false, false⟩

/-- Whether the epoch set is formed in a node state (R87). -/
def Flight.seeksEpoch (f : Flight) : Bool :=
  !f.epochKnown && (decide (f.nodeState = .acquire) || decide (f.nodeState = .track) || decide (f.nodeState = .holdover))

/-- The epoch offer, when one is made (R87). -/
def Flight.offer (f : Flight) (c : ConfigRecord) : Option EpochOffer :=
  let m := f.epochSet
  if f.seeksEpoch ∧ c.tolerance + 1 ≤ m.length then
    let mean := meanOf (keep ((m.length - 1) / 2) (sortLanes m))
    let agreeing := m.filter fun x => |x.value - mean| ≤ (c.band : Int)
    if c.tolerance + 1 ≤ agreeing.length then
      some { mean := mean, agreeing := agreeing.length, utc := commonUtc agreeing }
    else none
  else none

/-! ## Accuracy (R90, R91) -/

/-- Half the spread of a range in whole nanoseconds, rounded up (R90). -/
def Range.halfSpread (g : Range) : Nat := ceilDiv (g.high - g.low).toNat 8

/-- An estimate held at 2^31 - 1 (R90). -/
def holdEstimate (n : Nat) : Nat := min Config.estimateMax n

/-- The accuracy class of an estimate (R91). -/
def accuracyClassOf (e : Nat) : Nat := min 15 (bitLength e)

/-! ## The round result (R88) -/

/-- The round result with what the summary and the peer report need beside it (R88, R89, R92). -/
structure RoundResult where
  round         : BitVec 32
  source        : Source
  correction    : Option Int
  setUsed       : SetUsed
  size          : Nat
  kept          : List SetLane
  trimmed       : List SetLane
  epochKnownSet : Bool
  estimate      : Option Nat
  lanesOfS      : List SetLane
  offer         : Option EpochOffer
  peerRange     : PeerRange
  anchor        : Option AnchorStage
  accepted      : Bool
  byRef         : Bool
  overtaken     : Bool
  deriving DecidableEq, Repr

/-- The aggregate of a set used, present where one is (R82). -/
def RoundResult.aggregate (r : RoundResult) : Option Int := if r.kept = [] then none else some (meanOf r.kept)

/-- The steering source of a round (R76, R78, R79, R84, R85). -/
def sourceOf (byRef : Bool) (u : SetUsed) (accepted : Bool) : Source :=
  if byRef then .ref
  else
    match u with
    | .settled => if accepted then .anchors else .ensemble
    | .cold => .cold
    | .peer | .none => .none

/-- The correction of a round that is not overtaken (R82, R84, R85, R79). -/
def correctionOf (f : Flight) (source : Source) (aggregate : Int) (anchor : Option AnchorStage) : Option Int :=
  match source with
  | .ref => some (f.refOffset.getD 0)
  | .anchors => anchor.map (·.target)
  | .ensemble | .cold => some aggregate
  | .none => none

/-- The round estimate of a round that is neither starved nor overtaken (R90). -/
def estimateOf (c : ConfigRecord) (source : Source) (kept : Option Range) (anchor : Option AnchorStage) : Option Nat :=
  match source with
  | .ref => some (2 ^ (c.anchorClass.toNat + 3))
  | .anchors => anchor.map fun a => holdEstimate (a.subset.kept.halfSpread + 2 ^ (a.subset.bestClass.toNat + 3))
  | .ensemble | .cold => kept.map fun g => holdEstimate g.halfSpread
  | .none => none

/-- The Round Engine's work on what it took at the close (R75 to R91). -/
def Flight.result (f : Flight) (c : ConfigRecord) (id : Fin 16) (quiet : Nat) : RoundResult :=
  let u := f.used c id quiet
  let sorted := sortLanes u.2
  let kept := keep c.tolerance sorted
  let anchor := if u.1 = .settled then anchorStage u.2 else none
  let accepted :=
    match anchor, rangeOf kept with
    | some a, some g => targetAccepted c g a.target
    | _, _ => false
  let source := sourceOf f.byRef u.1 accepted
  { round := f.round
    source := source
    correction := if f.overtaken then none else correctionOf f source (meanOf kept) anchor
    setUsed := u.1
    size := u.2.length
    kept := kept
    trimmed := setAside c.tolerance sorted
    epochKnownSet := f.relaxed && u.2.any SetLane.known
    estimate := if f.overtaken then none else estimateOf c source (rangeOf kept) anchor
    lanesOfS := f.setS id
    offer := f.offer c
    peerRange := f.peerRange c
    anchor := anchor
    accepted := accepted
    byRef := f.byRef
    overtaken := f.overtaken }

/-- Whether a round is starved (R79). -/
def RoundResult.starved (r : RoundResult) : Bool := decide (r.setUsed = .none) && !r.byRef

/-- Whether an anchored target was refused (R84). -/
def RoundResult.split (r : RoundResult) : Bool := r.anchor.isSome && !r.accepted

/-- The peer report (R89): nothing for an overtaken round; the self lane is left out. -/
def RoundResult.report (r : RoundResult) : PeerReport :=
  if r.overtaken then { correction := none, kept := [], trimmed := [] }
  else
    { correction := r.correction
      kept := (r.kept.filter fun x => x.status.isSome).map (·.id)
      trimmed := (r.trimmed.filter fun x => x.status.isSome).map (·.id) }

/-! ## The quiet count (R74) -/

/-- Whether some round copy carries a settled state. -/
def Slot.heardSettled (x : Slot) : Bool := x.round.toList.any fun o => o.any fun c => c.status.state.settled

/-- The quiet count after a close (R74). -/
def quietAfter (quiet : Nat) (slots : Vector Slot 16) : Nat :=
  if slots.toList.any Slot.heardSettled then 0 else satSucc 16 quiet

/-! ## The summary (R92) -/

/-- The working summary begun at a close, with every field the Round Engine computes; the Steering Controller's fields are
entered at completion. What those hold until then the spec leaves open: node state after that of the close, HOLD, no rate step,
and rate, estimate, class and step count as last published (DESIGN CHOICE, log entry 35). -/
def Flight.summary (f : Flight) (c : ConfigRecord) (id : Fin 16) (quiet : Nat) (before : Summary) : Summary :=
  let r := f.result c id quiet
  { before with
    round := some r.round
    stateAtClose := f.nodeState
    stateAfter := f.nodeState
    source := r.source
    overtaken := r.overtaken
    quiet := quiet
    sizeS := r.lanesOfS.length
    sizeC := if f.coldConsidered c id quiet then some (f.setC id).length else none
    sizeSp := if c.refEnable then some f.settledLanes.length else none
    setUsed := r.setUsed
    size := r.size
    trimmed := sortIds (r.trimmed.map (·.id))
    kept := rangeOf r.kept
    aggregate := if r.byRef then none else r.aggregate
    anchored := r.anchor.map (·.subset)
    target := r.anchor.map fun a => (a.target, if r.accepted then .accepted else .split)
    peerRange := r.peerRange
    refOffset := if r.byRef then f.refOffset else none
    correction := r.correction
    offer := r.offer.map fun o => (o.mean, o.agreeing)
    action := .hold
    rateStep := none
    roundEstimate := r.estimate }

/-! ## The close (R70) -/

/-- What the Round Engine takes at the close of a round (R70). -/
def State.takeFlight (s : State) (round : BitVec 32) : Flight :=
  { round := round, slots := s.slots, nodeState := s.steer.nodeState, epochKnown := s.steer.epochKnown, utc := s.steer.utc,
    refSelected := s.steer.refSelected, refOffset := if s.ref.fresh then s.ref.lastOffset else none,
    stepCount := s.clock.stepCount, overtaken := false }

/-- The close of the round whose close is at the reading `t` (R57, R70, R74, R92, R120). -/
def State.takeClose (s : State) (t : Timestamp) : State :=
  let round := roundOfClose s.config t
  let s1 := s.closePeers round
  let quiet := quietAfter s1.round.quiet s1.slots
  let f := s1.takeFlight round
  let s2 := s1.setRound { s1.round with
    quiet := quiet, flight := some f, working := some (f.summary s1.config s1.ownId quiet s1.round.published) }
  let s3 := s2.setRef { s2.ref with fresh := false }
  s3.setClock { s3.clock with
    named := { s3.clock.named with close := some (t.plus (s3.config.roundQns : Nat)) } }

end Sys2Proof.Machine
end

