-- ==== Sys2Proof/Machine/Steering.lean ====
section
/-! DEFINITION. The Steering Controller (Chapter 5): the decision at a completion, the counters of consecutive rounds, the
accuracy estimate and class, the UTC majority rule (R126), and the completion as a whole (R72). -/

namespace Sys2Proof.Machine

/-- A decision: the record it leaves, the order it issues, and whether the slew limit cut the correction (R98). -/
structure Decision where
  steer   : Steering
  order   : Order
  clamped : Bool
  deriving DecidableEq, Repr

/-! ## Counters (R96) -/

/-- The record with its node state and REF selected set: a change of either returns every counter to 0, and the entry into
HOLDOVER sets the holdover age to 1 (R96). -/
def Steering.move (x : Steering) (st : NodeState) (selected : Bool) : Steering :=
  if st = x.nodeState ∧ selected = x.refSelected then x
  else
    { x with
      nodeState := st, refSelected := selected, listenCount := 0, agreementCount := 0, excessCount := 0,
      holdoverAge := if st = .holdover ∧ x.nodeState ≠ .holdover then 1 else 0, atLimitCount := 0 }

/-- The holdover age advanced (R96). -/
def Steering.age (x : Steering) : Steering := { x with holdoverAge := satSucc Config.counterMax x.holdoverAge }

/-! ## Orders (R99, R100) -/

/-- The rate step of a correction with gain `g` (R99). -/
def rateStepOf (c : ConfigRecord) (g : Nat) (corr : Int) : Int := halfEven (250000 * corr) (c.roundMs * 2 ^ g)

/-- HOLD with a record (R100). -/
def Steering.hold (x : Steering) : Decision :=
  { steer := x, order := { rateStep := none, action := .hold }, clamped := false }

/-- STEP by `c` with a record (R100). -/
def Steering.step (x : Steering) (c : Int) : Decision :=
  { steer := x, order := { rateStep := none, action := .step c }, clamped := false }

/-- A correction with gain `g` with a record (R99). -/
def Steering.correct (x : Steering) (cfg : ConfigRecord) (g : Nat) (c : Int) : Decision :=
  { steer := x
    order := { rateStep := some (rateStepOf cfg g c), action := .slew (clampTo (cfg.slewLimit : Int) c) }
    clamped := decide ((cfg.slewLimit : Int) < |c|) }

/-- Whether a correction lies within the step threshold. -/
def ConfigRecord.withinThreshold (cfg : ConfigRecord) (c : Int) : Bool := decide (|c| ≤ (cfg.stepThreshold : Int))

/-- Whether a value lies within the agreement band. -/
def ConfigRecord.withinBand (cfg : ConfigRecord) (c : Int) : Bool := decide (|c| ≤ (cfg.band : Int))

/-- The agreement count after a correction: one more within the band, 0 outside it (R104, R109). -/
def Steering.agree (x : Steering) (cfg : ConfigRecord) (c : Int) : Steering :=
  { x with agreementCount := if cfg.withinBand c then satSucc 8 x.agreementCount else 0 }

/-! ## Decisions by node state (R103 to R106, R109) -/

/-- LISTEN (R103). -/
def Steering.inListen (x : Steering) (r : RoundResult) : Decision :=
  let x1 := { x with listenCount := satSucc 4 x.listenCount }
  match r.correction with
  | none => x1.hold
  | some c =>
    if x1.listenCount = 4 then
      (({ x1 with epochKnown := x1.epochKnown || r.epochKnownSet }).move .acquire x1.refSelected).step c
    else x1.hold

/-- ACQUIRE with REF selected clear (R104). -/
def Steering.inAcquire (x : Steering) (cfg : ConfigRecord) (r : RoundResult) : Decision :=
  match r.correction with
  | none => x.hold
  | some c =>
    if cfg.withinThreshold c then
      let x1 := x.agree cfg c
      (if x1.agreementCount = 8 then x1.move .track false else x1).correct cfg cfg.acquireGain c
    else ({ x with agreementCount := 0 }).step c

/-- TRACK (R105). -/
def Steering.inTrack (x : Steering) (cfg : ConfigRecord) (r : RoundResult) : Decision :=
  match r.correction with
  | none => (x.move .holdover x.refSelected).hold
  | some c =>
    if cfg.withinThreshold c then ({ x with excessCount := 0 }).correct cfg cfg.trackGain c
    else
      let x1 := { x with excessCount := satSucc 3 x.excessCount }
      if x1.excessCount = 3 then (x1.move .acquire x1.refSelected).step c else x1.hold

/-- HOLDOVER (R106). -/
def Steering.inHoldover (x : Steering) (cfg : ConfigRecord) (r : RoundResult) : Decision :=
  match r.correction with
  | none => x.age.hold
  | some c =>
    if cfg.withinThreshold c then (x.move .track x.refSelected).correct cfg cfg.trackGain c
    else (x.move .acquire x.refSelected).step c

/-- ACQUIRE with REF selected (R109); `fresh` says that the close took a fresh offset. -/
def Steering.inAcquireRef (x : Steering) (cfg : ConfigRecord) (r : RoundResult) (fresh : Bool) : Decision :=
  let c := r.correction.getD 0
  if cfg.withinThreshold c then
    let x1 := if fresh then x.agree cfg c else x
    (if x1.agreementCount = 8 then x1.move .anchored true else x1).correct cfg cfg.acquireGain c
  else ({ x with agreementCount := 0 }).step c

/-- ANCHORED (R109). -/
def Steering.inAnchored (x : Steering) (cfg : ConfigRecord) (r : RoundResult) : Decision :=
  let c := r.correction.getD 0
  if cfg.withinThreshold c then x.correct cfg cfg.trackGain c else (x.move .acquire true).step c

/-- The ordinary decision by the node state at the close (R98, step 4). -/
def Steering.ordinary (x : Steering) (cfg : ConfigRecord) (r : RoundResult) (fresh : Bool) : Decision :=
  match x.nodeState with
  | .listen => x.inListen r
  | .acquire => if x.refSelected then x.inAcquireRef cfg r fresh else x.inAcquire cfg r
  | .track => x.inTrack cfg r
  | .holdover => x.inHoldover cfg r
  | .anchored => x.inAnchored cfg r
  | .warmup | .config | .fault => x.hold

/-! ## Precedence (R98, R107, R108, R110) -/

/-- Whether the reference is usable (R108). -/
def refUsable (cfg : ConfigRecord) (ref : RefState) (x : Steering) : Bool :=
  cfg.refEnable && decide (ref = .valid) && x.epochKnown

/-- An overtaken round (R98, step 1). -/
def Steering.overtaken (x : Steering) : Decision := (if x.nodeState = .holdover then x.age else x).hold

/-- Whether an epoch offer is adopted in this record (R107). -/
def Steering.mayAdopt (x : Steering) : Bool :=
  !x.epochKnown && (decide (x.nodeState = .acquire) || decide (x.nodeState = .track) || decide (x.nodeState = .holdover))

/-- The adoption of an epoch offer (R107). -/
def Steering.adoptEpoch (x : Steering) (o : EpochOffer) : Decision :=
  ({ ({ x with epochKnown := true, utc := o.utc }).move .acquire x.refSelected with agreementCount := 0 }).step o.mean

/-- The release of the reference (R110). -/
def Steering.release (x : Steering) (range : PeerRange) : Decision :=
  match x.nodeState with
  | .anchored => (x.move (if range = .starved then .holdover else .track) false).hold
  | _ => (x.move x.nodeState false).hold

/-- The entry on the reference, where one takes place (R108); `offset` is the fresh REF offset the close took. -/
def Steering.enter (x : Steering) (cfg : ConfigRecord) (r : RoundResult) (offset : Option Int) : Option Decision :=
  match x.nodeState with
  | .listen | .acquire => some (x.move .acquire true).hold
  | .track | .holdover =>
    match offset with
    | none => none
    | some o =>
      if cfg.withinBand o then
        match r.correction with
        | some c =>
          if cfg.withinThreshold c then some ((x.move .anchored true).correct cfg cfg.trackGain c)
          else some (x.move .anchored true).hold
        | none => some (x.move .anchored true).hold
      else some (x.move .acquire true).hold
  | .warmup | .config | .anchored | .fault => none

/-- The decision in the order of precedence of R98, steps 1 to 4. -/
def Steering.decideRound (x : Steering) (cfg : ConfigRecord) (ref : RefState) (r : RoundResult) (offset : Option Int) :
    Decision :=
  if r.overtaken then x.overtaken
  else
    match r.offer.filter fun _ => x.mayAdopt with
    | some o => x.adoptEpoch o
    | none =>
      if x.refSelected then
        if refUsable cfg ref x then x.ordinary cfg r offset.isSome else x.release r.peerRange
      else if refUsable cfg ref x then (x.enter cfg r offset).getD (x.ordinary cfg r offset.isSome)
      else x.ordinary cfg r offset.isSome

/-! ## Step 5 of R98: estimate, class and timescale (R111, R112, R126) -/

/-- The accuracy estimate after a completion (Table 5-6); `x` is the record before it. -/
def Steering.setEstimate (y : Steering) (x : Steering) (cfg : ConfigRecord) (r : RoundResult) : Steering :=
  if y.nodeState = .holdover ∧ x.nodeState ≠ .holdover then
    { y with estimate := holdEstimate (x.estimate + cfg.growth), holdoverEntry := x.estimate }
  else if y.nodeState = .holdover then
    { y with estimate := holdEstimate (y.holdoverEntry + y.holdoverAge * cfg.growth) }
  else
    match r.estimate with
    | some e => { y with estimate := e }
    | none => y

/-- The accuracy class of a record (R112). -/
def Steering.setClass (y : Steering) : Steering :=
  { y with accuracyClass := if y.nodeState.settled then accuracyClassOf y.estimate else 15 }

/-- The lanes of S that the UTC majority rule considers (R126). -/
def RoundResult.votes (r : RoundResult) : List UtcValues :=
  (r.lanesOfS.filter SetLane.known).filterMap fun x => x.status.map PeerStatus.utc

/-- The triple that more than half of the considered lanes carry (R126). -/
def majority (l : List UtcValues) : Option UtcValues := l.find? fun u => decide (l.length < 2 * l.count u)

/-- The UTC majority rule (R126). -/
def Steering.setUtc (y : Steering) (r : RoundResult) : Steering :=
  if r.overtaken ∨ y.hostTimescale ∨ y.leapGuard.isSome ∨ !y.epochKnown then y
  else
    match majority r.votes with
    | none => y
    | some u => { y with utc := u }

/-- Step 5 of R98. -/
def Steering.finish (y : Steering) (x : Steering) (cfg : ConfigRecord) (r : RoundResult) : Steering :=
  ((y.setEstimate x cfg r).setClass).setUtc r

/-! ## Step 6 of R98: the issue (R101, R102) -/

/-- Whether a decision changed the node state or REF selected. -/
def changesSpell (x y : Steering) : Bool := decide (x.nodeState ≠ y.nodeState) || decide (x.refSelected ≠ y.refSelected)

/-- The at-limit count after an order with a rate step, and whether OSC_RANGE is reported (R101). A completion that changes
the spell does not count toward it (R96). -/
def countAtLimit (count : Nat) (changed limit : Bool) : Nat × Bool :=
  if changed then (0, false)
  else if !limit then (0, false)
  else if satSucc 8 count = 8 then (0, true) else (satSucc 8 count, false)

/-- The at-limit count moved by an order already taken (R101). -/
def State.moveAtLimit (s : State) (rateStep : Option Int) (changed : Bool) : State :=
  match rateStep with
  | none => s
  | some _ =>
    let n := countAtLimit s.steer.atLimitCount changed (atLimit s.clock.rate)
    (s.setSteer { s.steer with atLimitCount := n.1 }).reportIf n.2 .oscRange

/-- The summary completed with the Steering Controller's decision (R102). -/
def State.completeSummary (s : State) (m : Summary) (o : Order) : Summary :=
  { m with
    stateAfter := s.steer.nodeState, action := o.action, rateStep := o.rateStep, rateAfter := s.clock.rate,
    estimate := s.steer.estimate, accuracyClass := s.steer.accuracyClass, stepCount := s.clock.stepCount }

/-- The issue of a decision: the record and the outputs that follow from it, the order, the at-limit count and the
reports (R98 step 6, R112, R132). -/
def State.issue (s : State) (changed : Bool) (d : Decision) : State :=
  let s1 := (s.setSteer d.steer).evaluateOutputs
  let s2 := s1.takeOrder d.order
  (s2.moveAtLimit d.order.rateStep changed).reportIf d.clamped .clamped

/-! ## The completion (R72) -/

/-- The completion of the round in flight, `f` (R72, R98, R121, R60, R92). -/
def State.complete (s : State) (f : Flight) : State :=
  let cfg := s.config
  let r := f.result cfg s.ownId s.round.quiet
  let m := f.summary cfg s.ownId s.round.quiet s.round.published
  let s1 := s.setRound { s.round with flight := none }
  let s2 := s1.judgeReference r.peerRange f.refOffset f.refSelected
  let x := s2.steer
  let d := x.decideRound cfg s2.ref.state r f.refOffset
  let s3 := s2.issue (changesSpell x d.steer) { d with steer := d.steer.finish x cfg r }
  let s4 := s3.completePeers r.round r.report
  let s5 := (s4.reportIf (r.starved && !r.overtaken) .starved).reportIf (r.split && !r.overtaken) .split
  let done := s5.completeSummary m d.order
  s5.setRound { s5.round with working := some done, published := done }

end Sys2Proof.Machine
end

