-- ==== Sys2Proof/Machine/Instants.lean ====
section
/-! DEFINITION. The instant events of the Node Clock (R7) and the REF pulse: ROUND_CLOSE, ROUND_COMPLETION, SLEW_END,
REF_PULSE, MISS_INSTANT, ANCHOR_TIME_EXPIRY, TOP_OF_SECOND, HALF_SECOND, PULSE_END, TRAIN_EDGE and LEAP_GUARD_EXPIRY. -/

namespace Sys2Proof.Machine

/-! ## The top of second (R127, R133, R139, R143, R151) -/

/-- The leap of a top of second, where one falls at it: the UTC values move and the leap guard is set (R125, R127). -/
def Steering.leapAt (x : Steering) (top : Timestamp) : Steering :=
  if x.utc.leapsAt top.seconds then
    { x with utc := x.utc.leap, leapGuard := some (top.plus (2 * Config.qnsPerSecond : Nat)) }
  else x

/-- The next top of second named (R127, R133). -/
def State.nameTop (s : State) (top : Timestamp) : State :=
  s.setClock { s.clock with named := { s.clock.named with top := some (top.plus (Config.qnsPerSecond : Nat)) } }

/-- The frames and the outputs at a top of second, in the running states (R133, R151). -/
def State.driveTop (s : State) (top : Timestamp) : State := (s.setCode (s.code.move top.seconds)).outputsAtTop top

/-- The top of second at the reading `top`. In FAULT it brings the leap alone (R113, R127). -/
def State.takeTop (s : State) (top : Timestamp) : State :=
  let s1 := s.nameTop top
  let s2 := s1.setSteer (s1.steer.leapAt top)
  if s.steer.nodeState.running then s2.driveTop top else s2

/-- The half second at the reading `t` (R149). -/
def State.takeHalf (s : State) (t : Timestamp) : State :=
  let s1 := s.composeAtHalf t
  s1.setClock { s1.clock with named := { s1.clock.named with half := some (t.plus (Config.qnsPerSecond : Nat)) } }

/-! ## Named edges (R135, R136) -/

/-- One output channel changed. -/
def State.modifyChannel (s : State) (k : Fin 4) (f : Channel → Channel) : State :=
  s.setOuts { s.outs with channels := vmodify s.outs.channels k f }

/-- The fall of a pulse (R135). -/
def Channel.fall (c : Channel) : Channel := { c with high := false, pulseEnd := none }

/-- The reading of a named train edge. -/
def Channel.edgeReading (c : Channel) : Option Timestamp := c.edge.map (·.reading)

/-- Whether a train may rise again: it runs and it is active (R132, R134, R136). -/
def State.trainGoesOn (s : State) (k : Fin 4) : Bool := s.trainRuns k && s.active k

/-! ## The commands -/

/-- ROUND_CLOSE (R70). A close is not taken while one is in flight (log entry 26). -/
def execRoundClose (e : Elapsed) (s : State) : Host.Outcome State Fault Refusal :=
  let u := s.elapse e
  match u.clock.named.close with
  | none => .next u
  | some t => .next (if u.running && u.clock.reading.reached t && u.round.flight.isNone then u.takeClose t else u)

/-- ROUND_COMPLETION (R72): it ends the close in flight. -/
def execRoundCompletion (e : Elapsed) (s : State) : Host.Outcome State Fault Refusal :=
  let u := s.elapse e
  match u.round.flight with
  | none => .next u
  | some f => .next (if u.running then u.complete f else u)

/-- SLEW_END (R11). -/
def execSlewEnd (e : Elapsed) (s : State) : Host.Outcome State Fault Refusal :=
  let u := s.elapse e
  match u.clock.slew with
  | none => .next u
  | some w => .next (if u.running && u.clock.reading.reached w.finish then u.settleSlew else u)

/-- REF_PULSE (R115 to R118, R120, R124). -/
def execRefPulse (e : Elapsed) (s : State) : Host.Outcome State Fault Refusal :=
  let u := s.elapse e
  .next (if u.refActs then u.takePulse else u)

/-- MISS_INSTANT (R119). -/
def execMissInstant (e : Elapsed) (s : State) : Host.Outcome State Fault Refusal :=
  let u := s.elapse e
  .next (if u.missReached then u.takeMiss else u)

/-- ANCHOR_TIME_EXPIRY (R123). -/
def execAnchorTimeExpiry (e : Elapsed) (s : State) : Host.Outcome State Fault Refusal :=
  let u := s.elapse e
  match u.ref.pendingTime with
  | none => .next u
  | some a =>
    .next (if u.running && u.clock.reading.reached a.expiry then u.setRef { u.ref with pendingTime := none } else u)

/-- TOP_OF_SECOND (R127, R133, R139, R143, R151). -/
def execTopOfSecond (e : Elapsed) (s : State) : Host.Outcome State Fault Refusal :=
  let u := s.elapse e
  match u.clock.named.top with
  | none => .next u
  | some t => .next (if u.clocked && u.clock.reading.reached t then u.takeTop t else u)

/-- HALF_SECOND (R149). -/
def execHalfSecond (e : Elapsed) (s : State) : Host.Outcome State Fault Refusal :=
  let u := s.elapse e
  match u.clock.named.half with
  | none => .next u
  | some t => .next (if u.running && u.clock.reading.reached t then u.takeHalf t else u)

/-- PULSE_END (R135). -/
def execPulseEnd (e : Elapsed) (out : Fin 4) (s : State) : Host.Outcome State Fault Refusal :=
  let u := s.elapse e
  match u.outs.channels[out].pulseEnd with
  | none => .next u
  | some t => .next (if u.running && u.clock.reading.reached t then u.modifyChannel out Channel.fall else u)

/-- TRAIN_EDGE (R136). -/
def execTrainEdge (e : Elapsed) (out : Fin 4) (s : State) : Host.Outcome State Fault Refusal :=
  let u := s.elapse e
  match u.outs.channels[out].edgeReading with
  | none => .next u
  | some t =>
    .next (if u.running && u.clock.reading.reached t then
      u.modifyChannel out (·.takeEdge (trainRate (u.outSetting out).rate) (u.trainGoesOn out)) else u)

/-- LEAP_GUARD_EXPIRY (R125). -/
def execLeapGuardExpiry (e : Elapsed) (s : State) : Host.Outcome State Fault Refusal :=
  let u := s.elapse e
  match u.steer.leapGuard with
  | none => .next u
  | some t =>
    .next (if u.clocked && u.clock.reading.reached t then u.setSteer { u.steer with leapGuard := none } else u)

end Sys2Proof.Machine
end

