-- ==== Sys2Proof/Machine/Link.lean ====
section
/-! DEFINITION. The link ports, the Transmit Composer and the Receive Filter (Chapter 2): LINK_DROP, LINK_UP,
TRANSMIT_INSTANT, TICK_EGRESS, TICK_TX_COMPLETE and FRAME_RECEIVE. -/

namespace Sys2Proof.Machine

/-! ## Link events (R25) -/

/-- A transmission in progress is cut short and its tick is lost (R34). -/
def LinkPort.cutShort (p : LinkPort) : LinkPort :=
  match p.tx with
  | none => p
  | some _ => { p with tx := none }.bump .txLost

/-- A port whose link state goes from UP to DOWN (R25); `inFrame` says that a frame it takes was partly in. -/
def LinkPort.drop (p : LinkPort) (inFrame : Bool) : LinkPort :=
  let p1 := { p.cutShort with up := false }
  let p2 := if inFrame then p1.bump .rxError else p1
  p2.bump .linkDrops

/-- Whether the ports follow their PHY status lines: from CONFIG on (R25, Table 2-1). -/
def State.followsLink (s : State) : Bool := !s.held && decide (s.steer.nodeState ≠ .warmup)

/-- The PHY status line of a port takes a level. -/
def State.setLinkPin (s : State) (port : PortId) (level : Bool) : State :=
  s.setPins { s.pins with link := s.pins.link.set level port }

/-- A falling PHY status line (R25). -/
def State.dropLink (s : State) (port : PortId) (receiving : Bool) : State :=
  let s1 := s.setLinkPin port false
  if s.followsLink && (s.ports.get port).up then
    (s1.modifyPort port (·.drop (receiving && s.running))).report .link
  else s1

/-- A rising PHY status line (R25). -/
def State.raiseLink (s : State) (port : PortId) : State :=
  let s1 := s.setLinkPin port true
  if s.followsLink then s1.modifyPort port fun p => { p with up := true } else s1

/-! ## The tick composed (R29, R30, R114) -/

/-- The sender state of a node state; a node state that composes no tick has none (Table 5-8). -/
def NodeState.sender : NodeState → SenderState
  | .acquire => .acquire
  | .track => .track
  | .holdover => .holdover
  | .anchored => .anchored
  | .listen | .warmup | .config | .fault => .listen

/-- The status fields of a tick (Table 5-8). -/
def Steering.tickStatus (x : Steering) (cfg : ConfigRecord) : PeerStatus :=
  { state := x.nodeState.sender
    anchored := x.refSelected
    anchorClass := if x.refSelected then cfg.anchorClass else 0#3
    accuracyClass := BitVec.ofNat 4 (if x.nodeState.settled then x.accuracyClass else 15)
    epochKnown := x.epochKnown
    utcOffset := BitVec.ofInt 16 x.utc.offset
    leapPending := x.utc.pending
    leapDeletion := x.utc.deletion }

/-- The echo entry of a previous-round ingress stamp (R30). -/
def PrevStamp.echo (x : PrevStamp) (peer : Fin 16) : Echo :=
  { peer := BitVec.ofNat 4 peer.val
    round16 := x.round.extractLsb' 0 4
    nanos := BitVec.ofNat 30 x.stamp.nanos
    quarter := BitVec.ofNat 2 x.stamp.quarter
    seconds := BitVec.ofNat 8 x.stamp.seconds }

/-- The echo list of a port, by ascending peer id, with the step count at each ingress stamp (R30, R33). -/
def echoList (slots : Vector Slot 16) (port : PortId) : List (Echo × BitVec 8) :=
  ((List.finRange 16).filterMap fun i => (slots[i].prev.get port).map fun x => (x.echo i, x.step)).take 15

/-- The tick for round `n` on a port, as it stands at the transmit instant; the tx stamp and the stepped flag are written
at egress (R29). -/
def State.composeTick (s : State) (n : BitVec 32) (port : PortId) : Transmission :=
  let cfg := s.config
  let echoes := echoList s.slots port
  { tick :=
      { sender := s.port.strapId, ensemble := cfg.ensemble, period := cfg.roundCode, status := s.steer.tickStatus cfg,
        stepped := false, port := port, echoes := echoes.map (·.1), round := n,
        tx := { seconds := 0#40, nanos := 0#30, quarter := 0#2 } }
    echoSteps := echoes.map (·.2)
    egress := none
    frame := [] }

/-! ## Transmission (R31 to R36) -/

/-- The history at the transmit instant of round `n`: only the entry of round n − 1 stays (R36). -/
def pruneHistory (h : List HistoryEntry) (n : BitVec 32) : List HistoryEntry := h.filter fun x => x.round = n - 1#32

/-- A port at the transmit instant of round `n`, given the tick composed for it (R31, R34, R36). A transmission that has
not ended by then is lost (log entry 16). -/
def LinkPort.transmit (p : LinkPort) (n : BitVec 32) (tx : Transmission) : LinkPort :=
  let p1 := { p.cutShort with history := pruneHistory p.history n }
  if p.up then { p1 with tx := some tx } else p1.bump .txLost

/-- The transmit instant named at the reading `t` (R31). -/
def State.takeTransmit (s : State) (t : Timestamp) : State :=
  let n := roundOfTransmit s.config s.ownId t
  let s1 := s.setPorts
    ⟨s.ports.a.transmit n (s.composeTick n .a), s.ports.b.transmit n (s.composeTick n .b)⟩
  s1.setClock { s1.clock with named := { s1.clock.named with transmit := some (t.plus (s.config.roundQns : Nat)) } }

/-- Whether the stepped flag is set at egress (R33). -/
def steppedFlag (egressStep now : BitVec 8) (echoSteps : List (BitVec 8)) : Bool :=
  decide (now ≠ egressStep) || echoSteps.any fun x => decide (x ≠ now)

/-- The tick as it leaves, with what egress writes into it (R32). -/
def Transmission.stamped (x : Transmission) (p : LinkPort) (t : Timestamp) (step : BitVec 8) : Tick :=
  { x.tick with stepped := steppedFlag p.egressStep step x.echoSteps, tx := WireStamp.ofTimestamp t }

/-- A port at the egress of its tick (R32, R33). -/
def LinkPort.egress (p : LinkPort) (cfg : ConfigRecord) (id : BitVec 4) (port : PortId) (t : Timestamp) (step : BitVec 8) :
    LinkPort :=
  match p.tx with
  | none => p
  | some x =>
    match x.egress with
    | some _ => p
    | none =>
      let tick := x.stamped p t step
      { p with
        egressStep := step
        tx := some { x with
          tick := tick, egress := some { stamp := t, step := step }, frame := cfg.frameOf id port (cfg.payloadOf tick) } }

/-- The last two entries of a history (R36). -/
def lastTwo (h : List HistoryEntry) : List HistoryEntry := h.drop (h.length - 2)

/-- A port when the last byte of its tick has left (R32, R36). -/
def LinkPort.txComplete (p : LinkPort) (step : BitVec 8) : LinkPort :=
  match p.tx with
  | none => p
  | some x =>
    match x.egress with
    | none => p
    | some e =>
      let entry := { round := x.tick.round, tx := e.stamp, step := e.step, valid := decide (step = e.step) }
      LinkPort.bump { p with tx := none, sent := x.frame, history := lastTwo (p.history ++ [entry]) } .txSent

/-! ## The Receive Filter (R38 to R44) -/

/-- What the structural checks of Table 2-7 make of a sound frame: the stage it fails, or the tick with its payload. -/
inductive Structural where
  | fails (counter : PortCounter)
  | passes (tick : Tick) (payload : List Byte)
  deriving DecidableEq, Repr

/-- Stages 3 to 6 of Table 2-7. -/
def checkTick (cfg : ConfigRecord) (own : BitVec 4) (t : Tick) (payload : List Byte) : Structural :=
  if t.ensemble ≠ cfg.ensemble then .fails .rxEnsemble
  else if t.period ≠ cfg.roundCode then .fails .rxForeign
  else if cfg.nodes ≤ t.sender.toNat then .fails .rxForeign
  else if t.sender = own then .fails .rxClash
  else .passes t payload

/-- The structural checks of a sound frame (R39). -/
def structural (cfg : ConfigRecord) (own : BitVec 4) (frame : List Byte) : Structural :=
  if frameDestination frame ≠ cfg.group ∨ frameType frame ≠ cfg.typeCode then .fails .rxOther
  else
    match Tick.decode (framePayload frame) with
    | none => .fails .rxFormat
    | some t => checkTick cfg own t (framePayload frame)

/-- The protected bytes of a tick's payload (R28). -/
def protectedBytes (payload : List Byte) : List Byte := payload.take (20 + 6 * tickEchoCount payload)

/-- The check word a payload carries. -/
def carriedCheck (payload : List Byte) : BitVec 32 := word4 payload (20 + 6 * tickEchoCount payload)

/-- Whether a payload's check word verifies (R40). -/
def checkVerifies (cfg : ConfigRecord) (payload : List Byte) : Bool :=
  decide (cfg.checkWord (protectedBytes payload) = carriedCheck payload)

/-- The own time from the named boundary of a round number to a stamp, the boundary being the one nearest the stamp
(R41). -/
def fromNamedBoundary (cfg : ConfigRecord) (round : BitVec 32) (stamp : Timestamp) : Int :=
  let span : Int := (2 ^ 32 * cfg.roundQns : Nat)
  ((stamp.qns.val : Int) - (round.toNat * cfg.roundQns : Nat) + span / 2) % span - span / 2

/-- The judgement of R41. -/
inductive Judgement where
  | inTime
  | late
  | early
  | misnumberedAfter
  | misnumberedBefore
  deriving DecidableEq, Repr

/-- A stamp judged by its own time `d` from the named boundary (R41). -/
def judgeWindow (cfg : ConfigRecord) (d : Int) : Judgement :=
  let c : Int := cfg.closeQns
  let half : Int := (cfg.roundQns / 2 : Nat)
  if half ≤ d then .misnumberedAfter
  else if d ≤ -half then .misnumberedBefore
  else if c ≤ d then .late
  else if d < -c then .early
  else .inTime

/-- The port counter and the slot counter of a copy that is not in time (R41, R66). -/
def Judgement.counters : Judgement → Option (PortCounter × SlotCounter)
  | .inTime => none
  | .late => some (.rxLate, .late)
  | .early => some (.rxEarly, .early)
  | .misnumberedAfter => some (.rxMisnumbered, .late)
  | .misnumberedBefore => some (.rxMisnumbered, .early)

/-- How a valid copy is attributed in a node state: to the next close in LISTEN (R42), else to the round it names (R41). -/
def State.attribution (s : State) (round : BitVec 32) : Attribution × BitVec 32 × Judgement :=
  let t := s.clock.reading
  if s.steer.nodeState = .listen then (.nextClose, roundOfClose s.config (nextClose s.config t), .inTime)
  else (.named, round, judgeWindow s.config (fromNamedBoundary s.config round t))

/-- The copy record an accepted tick leaves, before echo processing (R44, R48). -/
def State.copyOf (s : State) (t : Tick) (kind : Attribution) (round : BitVec 32) : Copy :=
  { attributed := round, kind := kind, roundField := t.round, ingress := s.clock.reading, ingressStep := s.clock.stepCount,
    tx := t.tx, status := t.status, stepped := t.stepped,
    ownEcho := t.echoes.find? fun x => x.peer = s.port.strapId,
    outcome := .noEcho, checked := false, congested := false, estimate := none, bounded := false }

/-- Whether a slot holds a current-round copy on a port for a round (R43). -/
def Slot.holds (x : Slot) (port : PortId) (round : BitVec 32) : Bool :=
  (x.current.get port).any fun c => decide (c.attributed = round)

/-- Acceptance of a copy (R44, R48). -/
def State.acceptCopy (s : State) (port : PortId) (t : Tick) (kind : Attribution) (round : BitVec 32) : State :=
  let s1 := if t.port = port then s else s.bumpPort port .rxCrossed
  let s2 := s1.bumpPort port .rxAccepted
  s2.modifySlot t.sender.toFin fun x =>
    x.accept s.config s.steer.nodeState (s.ports.get port).history port (s.copyOf t kind round)

/-- The duplicate check of a copy attributed to a round, and its acceptance (R43, R44). -/
def State.placeCopy (s : State) (port : PortId) (t : Tick) (kind : Attribution) (round : BitVec 32) : State :=
  let id : Fin 16 := t.sender.toFin
  if s.slots[id].holds port round then (s.bumpPort port .rxDuplicate).bumpSlot id .duplicate
  else s.acceptCopy port t kind round

/-- A valid copy, attributed and judged (R41, R42). -/
def State.judgeCopy (s : State) (port : PortId) (t : Tick) : State :=
  let a := s.attribution t.round
  match a.2.2.counters with
  | none => s.placeCopy port t a.1 a.2.1
  | some (p, c) => ((s.bumpPort port p).bumpSlot t.sender.toFin c).report .late

/-- A sound frame through the filter (R39, R40). -/
def State.filterFrame (s : State) (port : PortId) (frame : List Byte) : State :=
  match structural s.config s.port.strapId frame with
  | .fails c => (s.bumpPort port c).reportIf (decide (c = .rxClash)) .idClash
  | .passes t payload =>
    if checkVerifies s.config payload then s.judgeCopy port t
    else ((s.bumpPort port .rxBadCheck).bumpSlot t.sender.toFin .badCheck).report .badCheck

/-- A frame that a port takes (R27, R38). -/
def State.takeFrame (s : State) (port : PortId) (frame : List Byte) : State :=
  if frameSound frame then s.filterFrame port frame else s.bumpPort port .rxError

/-- Whether a port takes frames: its link is UP and the node is in a running state (Table 2-1). -/
def State.takesFrames (s : State) (port : PortId) : Bool := s.running && (s.ports.get port).up

/-! ## The commands -/

/-- LINK_DROP (R25, R34). -/
def execLinkDrop (e : Elapsed) (port : PortId) (receiving : Bool) (s : State) : Host.Outcome State Fault Refusal :=
  .next ((s.elapse e).dropLink port receiving)

/-- LINK_UP (R25). -/
def execLinkUp (e : Elapsed) (port : PortId) (s : State) : Host.Outcome State Fault Refusal :=
  .next ((s.elapse e).raiseLink port)

/-- TRANSMIT_INSTANT (R31): taken when the reading has reached the named instant (log entry 3). -/
def execTransmitInstant (e : Elapsed) (s : State) : Host.Outcome State Fault Refusal :=
  let u := s.elapse e
  match u.clock.named.transmit with
  | none => .next u
  | some t => .next (if u.running && u.clock.reading.reached t then u.takeTransmit t else u)

/-- TICK_EGRESS (R32, R33, R35). -/
def execTickEgress (e : Elapsed) (port : PortId) (s : State) : Host.Outcome State Fault Refusal :=
  let u := s.elapse e
  .next (if u.running then
    u.modifyPort port (·.egress u.config u.port.strapId port u.clock.reading u.clock.stepCount) else u)

/-- TICK_TX_COMPLETE (R32, R36). -/
def execTickTxComplete (e : Elapsed) (port : PortId) (s : State) : Host.Outcome State Fault Refusal :=
  let u := s.elapse e
  .next (if u.running then u.modifyPort port (·.txComplete u.clock.stepCount) else u)

/-- FRAME_RECEIVE (R24, R38 to R44). -/
def execFrameReceive (e : Elapsed) (port : PortId) (bytes : List Byte) (s : State) : Host.Outcome State Fault Refusal :=
  let u := s.elapse e
  .next (if u.takesFrames port then u.takeFrame port bytes else u)

end Sys2Proof.Machine
end

