-- ==== Sys2Proof/Machine/Resets.lean ====
section
/-! DEFINITION. The resets (R20, R23), the Oscillator Monitor's instants (R18, R19, R21), the entry into FAULT (R22, R113)
and the monitor top (R144): SUPPLY_RESET, RESET_PIN_ASSERT, RESET_PIN_RELEASE, COMMAND_RESET, STRAP_SAMPLE, GATE_END and
MONITOR_TOP. -/

namespace Sys2Proof.Machine

/-! ## What every reset does (R20, R23, R45, R69, R94, R95, R115, R129, R145, R146, R154, R164, R165, R175) -/

/-- The part at the first monitor cycle of warm-up after a reset of a cause, with the strap pins as they read then, the
rate adjustment and the configuration record that the kind of reset leaves. The queue, the pins and the model's idle count
are no state of the part's own and stay. -/
def State.resetTo (s : State) (cause : ResetCause) (straps : BitVec 4) (rate : Int) (record : Option ConfigRecord) : State :=
  { pending := s.pending
    idleCount := s.idleCount
    pins := s.pins
    clock := { Clock.reset with rate := rate }
    monitor := Monitor.reset cause straps
    ports := ⟨LinkPort.reset, LinkPort.reset⟩
    slots := Vector.replicate 16 Slot.reset
    published := Published.reset
    round := RoundEngine.reset rate
    steer := Steering.reset
    ref := RefUnit.reset
    outs := OutputUnit.reset ((record.getD ConfigRecord.builtIn).envelopes .warmup)
    code := CodeComposer.reset
    capture := CaptureUnit.reset
    cond := ConditionBlock.reset
    port := { CommandPort.reset with record := record } }

/-- The reset pin's level (R20). -/
def State.setResetPin (s : State) (asserted : Bool) : State := s.setPins { s.pins with resetAsserted := asserted }

/-- A power-on reset (R20). -/
def State.supplyReset (s : State) (straps : BitVec 4) : State := s.resetTo .powerOn straps 0 none

/-- The assertion of the reset pin: everything takes its reset value at once and is held there; the recorded cause and the
record are those from before until the release (log entry 6). -/
def State.assertPin (s : State) : State :=
  if s.held then s else (s.setResetPin true).resetTo s.monitor.cause 0#4 s.clock.rate s.port.record

/-- The release of the reset pin (R20). -/
def State.releasePin (s : State) (straps : BitVec 4) : State :=
  if s.held then (s.setResetPin false).resetTo .pin straps s.clock.rate none else s

/-- The command reset at the end of an accepted RESTART transaction (R20, R170). -/
def State.commandReset (s : State) (straps : BitVec 4) : State :=
  if !s.held && s.port.restartArmed then s.resetTo .restart straps s.clock.rate s.port.record else s

/-! ## The second strap sample (R21) -/

/-- Whether the warm-up counter has reached the warm-up count (R19). -/
def Monitor.warmedUp (m : Monitor) : Bool := decide (m.cause.warmUpCount ≤ m.warmCount)

/-- Whether the second strap sample is due (R21). -/
def State.strapsDue (s : State) : Bool := !s.held && decide (s.port.strapValid = .notSampled) && s.monitor.warmedUp

/-- The second strap sample (R21). -/
def State.takeStraps (s : State) (straps : BitVec 4) : State :=
  s.setPort { s.port with
    strapId := straps, strapValid := if straps = s.monitor.firstStrap then .valid else .invalid }

/-! ## FAULT (R22, R34, R70, R73, R113, R115, R142, R146, R149) -/

/-- The Steering Controller's record at the entry into FAULT (R113). -/
def Steering.onFault (x : Steering) : Steering :=
  { x with
    nodeState := .fault, refSelected := false, accuracyClass := 15, listenCount := 0, agreementCount := 0,
    excessCount := 0, holdoverAge := 0, atLimitCount := 0 }

/-- The Node Clock at the entry into FAULT: the slew is dropped, and closes, transmit instants and half seconds are
withdrawn; the tops of second stay named (R22, R127). -/
def Clock.onFault (k : Clock) : Clock :=
  { k with slew := none, named := { k.named with half := none, close := none, transmit := none } }

/-- The entry into FAULT. -/
def State.enterFault (s : State) : State :=
  let s1 := (s.setRefUnit s.ref.onFault)
  let s2 := s1.setSteer s1.steer.onFault
  let s3 := s2.setClock s2.clock.onFault
  let s4 := s3.setPorts (s3.ports.map LinkPort.cutShort)
  let s5 := s4.setRound { s4.round with flight := none, working := none }
  let s6 := s5.setOuts s5.outs.onFault
  let s7 := s6.setCode { s6.code with pendingFrame := none, current := none }
  let s8 := s7.setMonitor { s7.monitor with topDue := s7.monitor.topDue && decide (s7.monitor.phase = 0) }
  s8.setCond { s8.cond with fault := true }

/-! ## Gates (R18, R19) -/

/-- Whether a gate count passes (R18). -/
def gatePasses (count : Nat) : Bool := decide (Config.gatePassMin ≤ count) && decide (count ≤ Config.gatePassMax)

/-- Whether a gate has ended (R18). -/
def State.gateDue (s : State) : Bool := !s.held && decide (Config.gateCycles ≤ s.monitor.gatePosition)

/-- The next gate begun, with the consecutive passes that the ended one leaves (R18). -/
def Monitor.nextGate (m : Monitor) (passes : Nat) : Monitor :=
  { m with gatePosition := m.gatePosition - Config.gateCycles, gateCount := 0, passes := passes }

/-- The consecutive passes after a gate: a pass adds one up to 2, a fail returns them to 0 (R18). -/
def passesAfter (pass : Bool) (passes : Nat) : Nat := if pass then satSucc 2 passes else 0

/-- WARMUP is left for CONFIG, and each port takes its line's level as its link state (R19, R25, R97). -/
def State.leaveWarmup (s : State) : State :=
  let s1 := s.setSteer { s.steer with nodeState := .config }
  s1.setPorts
    ⟨{ s1.ports.a with up := s1.pins.link.a }, { s1.ports.b with up := s1.pins.link.b }⟩

/-- A gate end (R18, R19, R22). -/
def State.takeGate (s : State) : State :=
  let pass := gatePasses s.monitor.gateCount
  let s1 := s.setMonitor (s.monitor.nextGate (passesAfter pass s.monitor.passes))
  match s.steer.nodeState with
  | .warmup => if s1.monitor.warmedUp && decide (s1.monitor.passes = 2) then s1.leaveWarmup else s1
  | .config => s1
  | .listen | .acquire | .track | .holdover | .anchored => if pass then s1 else s1.enterFault
  | .fault => s.setMonitor (s.monitor.nextGate s.monitor.passes)

/-! ## The monitor top (R144) -/

/-- Whether the lamps are timed by the monitor second in a node state (R144). -/
def NodeState.monitorTimed : NodeState → Bool
  | .warmup | .config | .fault => true
  | .listen | .acquire | .track | .holdover | .anchored => false

/-- The monitor top (R144). -/
def State.takeMonitorTop (s : State) : State :=
  let s1 := s.setMonitor { s.monitor with topDue := false }
  if s.steer.nodeState.monitorTimed then s1.latchLamps else s1

/-! ## The commands -/

/-- SUPPLY_RESET (R20). -/
def execSupplyReset (e : Elapsed) (straps : BitVec 4) (s : State) : Host.Outcome State Fault Refusal :=
  .next ((s.elapse e).supplyReset straps)

/-- RESET_PIN_ASSERT (R20, R131). -/
def execResetPinAssert (e : Elapsed) (s : State) : Host.Outcome State Fault Refusal := .next (s.elapse e).assertPin

/-- RESET_PIN_RELEASE (R20, R175). -/
def execResetPinRelease (e : Elapsed) (straps : BitVec 4) (s : State) : Host.Outcome State Fault Refusal :=
  .next ((s.elapse e).releasePin straps)

/-- COMMAND_RESET (R20, R170). -/
def execCommandReset (e : Elapsed) (straps : BitVec 4) (s : State) : Host.Outcome State Fault Refusal :=
  .next ((s.elapse e).commandReset straps)

/-- STRAP_SAMPLE (R21). -/
def execStrapSample (e : Elapsed) (straps : BitVec 4) (s : State) : Host.Outcome State Fault Refusal :=
  let u := s.elapse e
  .next (if u.strapsDue then u.takeStraps straps else u)

/-- GATE_END (R18). -/
def execGateEnd (e : Elapsed) (s : State) : Host.Outcome State Fault Refusal :=
  let u := s.elapse e
  .next (if u.gateDue then u.takeGate else u)

/-- MONITOR_TOP (R144). -/
def execMonitorTop (e : Elapsed) (s : State) : Host.Outcome State Fault Refusal :=
  let u := s.elapse e
  .next (if !u.held && u.monitor.topDue then u.takeMonitorTop else u)

end Sys2Proof.Machine
end

