-- ==== Sys2Proof/Machine/Responses.lean ====
section
/-! DEFINITION. What the Command Port sends back (R168): the response codes and the byte form of every field, in the order
in which the rules list them. Widths and forms that R168 leaves to be worked out are those of log entry 10. -/

namespace Sys2Proof.Machine

/-! ## The response (R168, Table 10-2) -/

/-- Response codes (Table 10-2). -/
inductive ResponseCode where
  | accept | refuseState | refuseArg | empty
  deriving DecidableEq, Repr

/-- The byte of a response code (Table 10-2). -/
def ResponseCode.byte : ResponseCode → Byte
  | .accept => 0x01#8
  | .refuseState => 0x02#8
  | .refuseArg => 0x03#8
  | .empty => 0x04#8

/-- The bytes shifted out in a transaction that ends normally: 00h for each byte the host sends, then the response code,
then the data (R168). -/
def responseBytes (sent : Nat) (code : ResponseCode) (data : List Byte) : List Byte :=
  List.replicate sent 0#8 ++ code.byte :: data

/-- A command answered: `sent` is the length of its code and arguments (R168). -/
def State.respond (s : State) (sent : Nat) (code : ResponseCode) (data : List Byte) : State :=
  s.setPort { s.port with dataOut := responseBytes sent code data }

/-! ## Plain fields (R168) -/

/-- A field of `n` bytes. -/
def numBytes (n : Nat) (z : Int) : List Byte := beBytes n z

/-- A yes-or-no or set-or-clear field. -/
def flagByte (b : Bool) : List Byte := [if b then 0x01#8 else 0x00#8]

/-- A field of named values: the position of its value. -/
def nameByte (n : Nat) : List Byte := [BitVec.ofNat 8 n]

/-- An optional field whose own bytes are `width` wide. -/
def optional {α : Type} (width : Nat) (f : α → List Byte) (o : Option α) : List Byte :=
  match o with
  | none => 0x00#8 :: List.replicate width 0x00#8
  | some x => 0x01#8 :: f x

/-- A collection. -/
def items {α : Type} (f : α → List Byte) (l : List α) : List Byte := BitVec.ofNat 8 l.length :: (l.map f).flatten

/-- A timestamp. -/
def stampBytes (t : Timestamp) : List Byte := numBytes 5 t.seconds ++ numBytes 4 t.nanos ++ numBytes 1 t.quarter

/-- A timestamp as a tick carried it. -/
def wireBytes (w : WireStamp) : List Byte :=
  numBytes 5 w.seconds.toNat ++ numBytes 4 w.nanos.toNat ++ numBytes 1 w.quarter.toNat

/-- A 64-bit signed quantity. -/
def quantity (z : Int) : List Byte := numBytes 8 z

/-! ## Named values, by their position in the list that defines them -/

/-- Node states (Table 5-1). -/
def NodeState.position : NodeState → Nat
  | .warmup => 0 | .config => 1 | .listen => 2 | .acquire => 3 | .track => 4 | .holdover => 5 | .anchored => 6 | .fault => 7

/-- States at capture (Table 9-2). -/
def NodeState.capturePosition : NodeState → Nat
  | .listen => 0 | .acquire => 1 | .track => 2 | .holdover => 3 | .anchored => 4 | .fault => 5
  | .warmup | .config => 0

/-- Sender states (Table 2-3). -/
def SenderState.position (s : SenderState) : Nat := s.code.toNat

/-- Reset causes (R20). -/
def ResetCause.position : ResetCause → Nat
  | .powerOn => 0 | .pin => 1 | .restart => 2

/-- Strap validity (R171). -/
def StrapValidity.position : StrapValidity → Nat
  | .notSampled => 0 | .valid => 1 | .invalid => 2

/-- REF states (Table 6-1). -/
def RefState.position : RefState → Nat
  | .absent => 0 | .qualifying => 1 | .valid => 2 | .distrusted => 3

/-- Liveness (Table 3-1). -/
def Liveness.position : Liveness → Nat
  | .vacant => 0 | .heard => 1 | .active => 2 | .silent => 3

/-- Delay outcomes (Table 3-2). -/
def DelayOutcome.position : DelayOutcome → Nat
  | .added => 0 | .clamped => 1 | .noEcho => 2 | .stepped => 3 | .missing => 4 | .invalidated => 5 | .overMax => 6

/-- Kinds of attribution (Table 3-2). -/
def Attribution.position : Attribution → Nat
  | .named => 0 | .nextClose => 1

/-- Sources (Table 4-6). -/
def Source.position : Source → Nat
  | .ensemble => 0 | .anchors => 1 | .cold => 2 | .ref => 3 | .none => 4

/-- Sets used (Table 4-6). -/
def SetUsed.position : SetUsed → Nat
  | .settled => 0 | .cold => 1 | .peer => 2 | .none => 3

/-- Target outcomes (Table 4-6). -/
def TargetOutcome.position : TargetOutcome → Nat
  | .accepted => 0 | .split => 1

/-- Actions (Table 4-6). -/
def Action.position : Action → Nat
  | .slew _ => 0 | .step _ => 1 | .hold => 2

/-- Edges (Table 9-2). -/
def EdgeKind.position : EdgeKind → Nat
  | .rise => 0 | .fall => 1

/-- Ports (R24). -/
def portPosition : PortId → Nat
  | .a => 0 | .b => 1

/-- Link states (R25): UP, then DOWN. -/
def linkPosition (up : Bool) : Nat := if up then 0 else 1

/-! ## READ-TIME (R16) -/

/-- The data of READ-TIME. -/
def State.timeData (s : State) : List Byte :=
  stampBytes s.clock.reading ++ nameByte s.steer.nodeState.position ++ numBytes 1 s.steer.accuracyClass
    ++ flagByte s.steer.epochKnown ++ numBytes 2 s.steer.utc.offset ++ flagByte s.steer.utc.pending
    ++ flagByte s.steer.utc.deletion ++ numBytes 1 s.clock.stepCount.toNat

/-! ## READ-STATUS (R171) -/

/-- The link state and the sixteen counters of a port (Table 2-2). -/
def LinkPort.data (p : LinkPort) : List Byte :=
  nameByte (linkPosition p.up) ++ (p.counters.toList.map fun n : Nat => numBytes 2 n).flatten

/-- The sixteen condition flags, one word with the bits of Table 10-1, and the FAULT flag, in READ-STATUS and in CLEAR's
response alike (DEDUCED, log entry 10). -/
def ConditionBlock.data (c : ConditionBlock) : List Byte := bytes2 c.flags ++ flagByte c.fault

/-- The capture fields of READ-STATUS. -/
def CaptureUnit.data (c : CaptureUnit) : List Byte :=
  numBytes 1 c.fifo.length ++ numBytes 1 c.overflow ++ flagByte c.lossPending ++ flagByte c.lastEmpty ++ flagByte c.underrun

/-- The data of READ-STATUS. -/
def State.statusData (s : State) : List Byte :=
  nameByte s.steer.nodeState.position ++ nameByte s.monitor.cause.position ++ numBytes 1 s.port.strapId.toNat
    ++ nameByte s.port.strapValid.position ++ flagByte s.port.record.isSome ++ flagByte s.port.locked
    ++ nameByte s.ref.state.position ++ flagByte s.ref.pendingTime.isSome ++ s.cond.data ++ s.capture.data
    ++ s.ports.a.data ++ s.ports.b.data

/-! ## READ-ROUND (R92, R93, R94) -/

/-- Both ends of a range. -/
def rangeData (g : Range) : List Byte := quantity g.low ++ quantity g.high

/-- A list of node ids. -/
def idsData (l : List (Fin 16)) : List Byte := items (fun i => numBytes 1 i.val) l

/-- The anchored subset. -/
def AnchoredSubset.data (a : AnchoredSubset) : List Byte :=
  numBytes 1 a.bestClass.toNat ++ numBytes 1 a.size ++ numBytes 1 a.fa ++ idsData a.trimmed ++ rangeData a.kept

/-- The peer range: a presence byte, then 0 for a kept range and 1 for STARVED, then both ends. -/
def PeerRange.data : PeerRange → List Byte
  | .absent => List.replicate 18 0#8
  | .starved => [0x01#8, 0x01#8] ++ List.replicate 16 0#8
  | .kept g => [0x01#8, 0x00#8] ++ rangeData g

/-- The amount of a slew. -/
def Action.slewAmount : Action → Option Int
  | .slew x => some x
  | .step _ => none
  | .hold => none

/-- The amount of a step. -/
def Action.stepAmount : Action → Option Int
  | .slew _ => none
  | .step x => some x
  | .hold => none

/-- The first part of a summary, up to the aggregate (Table 4-6). -/
def Summary.dataHead (m : Summary) : List Byte :=
  optional 4 (fun r => bytes4 r) m.round ++ nameByte m.stateAtClose.position ++ nameByte m.stateAfter.position
    ++ nameByte m.source.position ++ flagByte m.overtaken ++ numBytes 1 m.quiet ++ numBytes 1 m.sizeS
    ++ optional 1 (fun n : Nat => numBytes 1 n) m.sizeC ++ optional 1 (fun n : Nat => numBytes 1 n) m.sizeSp
    ++ nameByte m.setUsed.position ++ numBytes 1 m.size ++ idsData m.trimmed ++ optional 16 rangeData m.kept
    ++ optional 8 quantity m.aggregate

/-- The second part of a summary (Table 4-6). -/
def Summary.dataTail (m : Summary) : List Byte :=
  optional 20 AnchoredSubset.data m.anchored ++ optional 8 (fun t => quantity t.1) m.target
    ++ optional 1 (fun t => nameByte t.2.position) m.target ++ m.peerRange.data ++ optional 4 (numBytes 4) m.refOffset
    ++ optional 8 quantity m.correction ++ optional 9 (fun o => quantity o.1 ++ numBytes 1 o.2) m.offer
    ++ nameByte m.action.position ++ optional 3 (numBytes 3) m.action.slewAmount
    ++ optional 8 quantity m.action.stepAmount ++ optional 5 (numBytes 5) m.rateStep ++ numBytes 4 m.rateAfter
    ++ optional 4 (fun n : Nat => numBytes 4 n) m.roundEstimate ++ numBytes 4 m.estimate ++ numBytes 1 m.accuracyClass
    ++ numBytes 1 m.stepCount.toNat

/-- The published summary as it reads: its two node-state fields follow the live node state until the first completion
(R94). -/
def State.readSummary (s : State) : Summary :=
  match s.round.published.round with
  | none => { s.round.published with stateAtClose := s.steer.nodeState, stateAfter := s.steer.nodeState }
  | some _ => s.round.published

/-- The data of READ-ROUND. -/
def State.roundData (s : State) : List Byte :=
  s.readSummary.dataHead ++ s.readSummary.dataTail ++ flagByte s.round.flight.isSome

/-! ## READ-PEER (R67, Table 3-1) -/

/-- A delay sample (R52). -/
def Sample.data (x : Sample) : List Byte :=
  bytes4 x.round ++ numBytes 3 x.value ++ optional 1 (fun n : Nat => numBytes 1 n) x.age

/-- The status fields of a copy (Table 3-2, R58). -/
def PeerStatus.dataHead (p : PeerStatus) : List Byte :=
  nameByte p.state.position ++ flagByte p.anchored ++ numBytes 1 p.anchorClass.toNat ++ numBytes 1 p.accuracyClass.toNat
    ++ flagByte p.epochKnown

/-- The UTC values of a copy, as sent. -/
def PeerStatus.dataTail (p : PeerStatus) : List Byte :=
  bytes2 p.utcOffset ++ flagByte p.leapPending ++ flagByte p.leapDeletion

/-- An echo entry (Table 2-3). -/
def Echo.data (x : Echo) : List Byte :=
  numBytes 1 x.peer.toNat ++ numBytes 1 x.round16.toNat ++ numBytes 4 x.nanos.toNat ++ numBytes 1 x.quarter.toNat
    ++ [x.seconds]

/-- A copy record (Table 3-2). -/
def Copy.data (c : Copy) : List Byte :=
  bytes4 c.attributed ++ nameByte c.kind.position ++ bytes4 c.roundField ++ stampBytes c.ingress
    ++ numBytes 1 c.ingressStep.toNat ++ wireBytes c.tx ++ c.status.dataHead ++ flagByte c.stepped ++ c.status.dataTail
    ++ optional 8 Echo.data c.ownEcho ++ nameByte c.outcome.position ++ flagByte c.checked ++ flagByte c.congested
    ++ optional 8 quantity c.estimate

/-- A previous-round ingress stamp (Table 3-1). -/
def PrevStamp.data (x : PrevStamp) : List Byte := stampBytes x.stamp ++ bytes4 x.round ++ numBytes 1 x.step.toNat

/-- A lane (Table 3-1, R58). -/
def Lane.data (l : Lane) : List Byte :=
  quantity l.value ++ nameByte (portPosition l.port) ++ l.status.dataHead ++ l.status.dataTail

/-- A verdict (Table 3-1). -/
def Verdict.data (v : Verdict) : List Byte := flagByte v.ahead ++ flagByte v.behind ++ flagByte v.level ++ flagByte v.summary

/-- A slot but for its current-round copies (Table 3-1, R67). -/
def Slot.data (x : Slot) : List Byte :=
  nameByte x.liveness.position ++ flagByte x.suspect ++ items Sample.data x.windows.a ++ items Sample.data x.windows.b
    ++ optional 3 (fun n : Nat => numBytes 3 n) (filteredDelay x.windows.a)
    ++ optional 3 (fun n : Nat => numBytes 3 n) (filteredDelay x.windows.b)
    ++ optional 61 Copy.data x.round.a ++ optional 61 Copy.data x.round.b
    ++ optional 15 PrevStamp.data x.prev.a ++ optional 15 PrevStamp.data x.prev.b
    ++ optional 18 Lane.data x.lane ++ optional 18 Lane.data x.lastLane ++ x.verdict.data
    ++ numBytes 1 x.misses ++ numBytes 1 x.trims ++ numBytes 1 x.agreements
    ++ (x.counters.toList.map fun n : Nat => numBytes 2 n).flatten

/-- The data of READ-PEER for a slot. -/
def State.peerData (s : State) (i : Fin 16) : List Byte :=
  s.published.slots[i].data ++ optional 4 (fun r => bytes4 r) s.published.round ++ flagByte s.round.flight.isSome

/-! ## READ-CAPTURE (R159, R162) -/

/-- A capture record (Table 9-2). -/
def CaptureRecord.data (r : CaptureRecord) : List Byte :=
  numBytes 1 r.input.val ++ nameByte r.edge.position ++ stampBytes r.snapshot.stamp ++ numBytes 1 r.snapshot.accuracyClass
    ++ nameByte r.snapshot.nodeState.capturePosition ++ numBytes 1 r.snapshot.step.toNat ++ flagByte r.loss

end Sys2Proof.Machine
end

