-- ==== Sys2Proof/Machine/Port.lean ====
section
/-! DEFINITION. The host commands and the malformed transactions (Chapters 1, 3, 4, 6, 9 and 10): READ_TIME to
ANCHOR_TIME, UNKNOWN_COMMAND, TRANSACTION_CUT_SHORT and ARGUMENT_WINDOW_OVERRUN. -/

namespace Sys2Proof.Machine

/-! ## READ-PEER, READ-STATUS and READ-CAPTURE -/

/-- READ-PEER (R67, R170). -/
def State.readPeerSlot (s : State) (id : Byte) : State :=
  if h : id.toNat < 16 then s.respond 2 .accept (s.peerData ⟨id.toNat, h⟩) else s.respond 2 .refuseArg []

/-- The UNDERRUN flag cleared (R162). -/
def State.clearUnderrun (s : State) : State := s.setCapture { s.capture with underrun := false }

/-- READ-CAPTURE (R162). -/
def State.readFifo (s : State) : State :=
  match s.capture.fifo with
  | r :: rest =>
    (s.setCapture { s.capture with fifo := rest, lastEmpty := false }).respond 1 .accept (r.data ++ numBytes 1 rest.length)
  | [] => ((s.setCapture { s.capture with lastEmpty := true, underrun := true }).report .underrun).respond 1 .empty []

/-! ## LOAD-CONFIG (R173) -/

/-- A channel under newly loaded settings: a LAMP output that the record newly creates is low until the next monitor top
(R144). -/
def Channel.onLoad (c : Channel) (before after : OutMode) : Channel :=
  if after = .lamp ∧ before ≠ .lamp then { c with dark := true } else c

/-- The record of 86 bytes accepted (R173). -/
def State.holdRecord (s : State) (l : List Byte) : State :=
  let cfg := ConfigRecord.ofBytes l
  let s1 := s.setOuts { s.outs with
    channels := vmapIdx (fun k c => c.onLoad (s.outSetting k).mode cfg.outs[k].mode) s.outs.channels }
  s1.setPort { s1.port with record := some cfg }

/-- The 86 argument bytes judged in CONFIG (R173). -/
def State.judgeRecord (s : State) (l : List Byte) : State :=
  match refusalOffset l with
  | some i => s.respond 87 .refuseArg [BitVec.ofNat 8 i]
  | none => (s.holdRecord l).respond 87 .accept [BitVec.ofNat 8 (clampCount l)]

/-- A malformed transaction (R169): the COMMAND condition, and 00h for what was sent. -/
def State.malformed (s : State) (sent : Nat) : State :=
  (s.report .command).setPort { s.port with dataOut := List.replicate sent 0#8 }

/-- LOAD-CONFIG with the argument bytes that came; bytes beyond the 86th are ignored (R168), fewer are a malformed
transaction (R169). -/
def State.loadRecord (s : State) (l : List Byte) : State :=
  if l.length < 86 then s.malformed (1 + l.length)
  else if s.steer.nodeState = .config then s.judgeRecord (l.take 86)
  else s.respond 87 .refuseState []

/-! ## START (R174) -/

/-- The response START would get: the first failing check decides (R174). -/
def State.judgeStart (s : State) : ResponseCode :=
  if s.steer.nodeState ≠ .config then .refuseState
  else
    match s.port.record with
    | none => .refuseState
    | some c =>
      if s.port.strapValid ≠ .valid then .refuseState
      else if c.nodes < 3 * c.tolerance + 1 ∨ c.nodes ≤ s.port.strapId.toNat then .refuseArg
      else .accept

/-- A link port at START: its history is empty and its egress step count 0 (R33, R36). -/
def LinkPort.atStart (p : LinkPort) : LinkPort := { p with history := [], egressStep := 0#8 }

/-- The Output Unit at START: clock timing, the LISTEN set latched at once (R144). A lamp that a LOAD-CONFIG left dark, its
monitor top still to come, lights with it (DEDUCED, log entry 36). -/
def OutputUnit.atStart (o : OutputUnit) (listen : BitVec 4) : OutputUnit :=
  { o with channels := vmap (fun c => { c with dark := false }) o.channels, lampLatch := listen, clockTiming := true }

/-- The Node Clock at START, under the rate adjustment it holds (R15, R31, R70). -/
def State.startClock (s : State) : Clock :=
  { Clock.reset with rate := s.clock.rate, named := s.namedFrom Timestamp.zero }

/-- An accepted START (R15, R33, R36, R74, R95, R115, R125, R144, R146, R155, R158, R174). -/
def State.begin (s : State) : State :=
  let s1 := s.setClock s.startClock
  let s2 := s1.setSteer { Steering.reset with nodeState := .listen }
  let s3 := s2.setRef RefUnit.reset
  let s4 := s3.setPorts (s3.ports.map LinkPort.atStart)
  let s5 := s4.setRound { s4.round with quiet := 0 }
  let s6 := s5.setOuts (s5.outs.atStart (s.config.envelopes .listen))
  let s7 := s6.setCode CodeComposer.reset
  let s8 := s7.setCapture (s7.capture.atStart s.config s.pins.event)
  s8.setPort { s8.port with locked := true }

/-- START (R174). -/
def State.startNode (s : State) : State :=
  match s.judgeStart with
  | .accept => s.begin.respond 1 .accept []
  | .refuseState => s.respond 1 .refuseState []
  | .refuseArg => s.respond 1 .refuseArg []
  | .empty => s.respond 1 .empty []

/-! ## CLEAR (R68, R167) -/

/-- The overflow count returned to 0 where CAPTURE_LOSS is selected (R160, R167). -/
def CaptureUnit.clear (c : CaptureUnit) (selected : Bool) : CaptureUnit := if selected then { c with overflow := 0 } else c

/-- The slots that a selector names cleared (R68). -/
def clearSlots (selector : BitVec 16) (v : Vector Slot 16) : Vector Slot 16 :=
  vmapIdx (fun i x => if selector.getLsbD i.val then x.clear else x) v

/-- The clearing of CLEAR (R167). -/
def State.clearSelected (s : State) (conditions : BitVec 32) (slots : BitVec 16) : State :=
  let s1 := s.setCond { s.cond with flags := s.cond.flags &&& ~~~ conditions.setWidth 16 }
  let s2 := s1.setCapture (s1.capture.clear (conditions.getLsbD 12))
  let s3 := s2.setSlots (clearSlots slots s2.slots)
  s3.setPublished { s3.published with slots := clearSlots slots s3.published.slots }

/-- CLEAR (R167): it returns the flags from before the clearing. -/
def State.clearAll (s : State) (conditions : BitVec 32) (slots : BitVec 16) : State :=
  (s.clearSelected conditions slots).respond 7 .accept s.cond.data

/-! ## ANCHOR-TIME (R123) -/

/-- The response ANCHOR-TIME would get (R123). -/
def State.judgeAnchorTime (s : State) (utcOffset : BitVec 16) : ResponseCode :=
  if !s.config.refEnable || !s.steer.nodeState.running then .refuseState
  else if utcOffset.toInt < -1000 ∨ 1000 < utcOffset.toInt then .refuseArg
  else .accept

/-- The pending anchor time that an accepted ANCHOR-TIME leaves (R123, Table 10-2). -/
def State.pendAnchorTime (s : State) (seconds : BitVec 40) (utcOffset : BitVec 16) (flags : Byte) : State :=
  s.setRef { s.ref with
    pendingTime := some
      { seconds := seconds
        utc := { offset := utcOffset.toInt, pending := flags.getLsbD 1, deletion := flags.getLsbD 0 }
        expiry := s.clock.reading.plus (2 * Config.qnsPerSecond : Nat) } }

/-- ANCHOR-TIME (R123). -/
def State.takeAnchorTime (s : State) (seconds : BitVec 40) (utcOffset : BitVec 16) (flags : Byte) : State :=
  match s.judgeAnchorTime utcOffset with
  | .accept => (s.pendAnchorTime seconds utcOffset flags).respond 9 .accept []
  | .refuseState => s.respond 9 .refuseState []
  | .refuseArg => s.respond 9 .refuseArg []
  | .empty => s.respond 9 .empty []

/-! ## The commands. While a reset is held the port takes no transaction (R169). -/

/-- READ_TIME (R16). -/
def execReadTime (e : Elapsed) (s : State) : Host.Outcome State Fault Refusal :=
  let u := s.elapse e
  .next (if u.held then u else u.respond 1 .accept u.timeData)

/-- READ_STATUS (R162, R171). -/
def execReadStatus (e : Elapsed) (s : State) : Host.Outcome State Fault Refusal :=
  let u := s.elapse e
  .next (if u.held then u else (u.respond 1 .accept u.statusData).clearUnderrun)

/-- READ_ROUND (R93). -/
def execReadRound (e : Elapsed) (s : State) : Host.Outcome State Fault Refusal :=
  let u := s.elapse e
  .next (if u.held then u else u.respond 1 .accept u.roundData)

/-- READ_PEER (R67). -/
def execReadPeer (e : Elapsed) (id : Byte) (s : State) : Host.Outcome State Fault Refusal :=
  let u := s.elapse e
  .next (if u.held then u else u.readPeerSlot id)

/-- READ_CAPTURE (R162). -/
def execReadCapture (e : Elapsed) (s : State) : Host.Outcome State Fault Refusal :=
  let u := s.elapse e
  .next (if u.held then u else u.readFifo)

/-- LOAD_CONFIG (R172, R173). -/
def execLoadConfig (e : Elapsed) (record : List Byte) (s : State) : Host.Outcome State Fault Refusal :=
  let u := s.elapse e
  .next (if u.held then u else u.loadRecord record)

/-- START (R174). -/
def execStart (e : Elapsed) (s : State) : Host.Outcome State Fault Refusal :=
  let u := s.elapse e
  .next (if u.held then u else u.startNode)

/-- RESTART (R170): the command reset comes at the end of the transaction, as COMMAND_RESET. -/
def execRestart (e : Elapsed) (s : State) : Host.Outcome State Fault Refusal :=
  let u := s.elapse e
  .next (if u.held then u
    else (u.setPort { u.port with restartArmed := true }).respond 1 .accept [])

/-- CLEAR (R167). -/
def execClear (e : Elapsed) (conditions : BitVec 32) (slots : BitVec 16) (s : State) : Host.Outcome State Fault Refusal :=
  let u := s.elapse e
  .next (if u.held then u else u.clearAll conditions slots)

/-- ANCHOR_TIME (R123). -/
def execAnchorTime (e : Elapsed) (seconds : BitVec 40) (utcOffset : BitVec 16) (flags : Byte) (s : State) :
    Host.Outcome State Fault Refusal :=
  let u := s.elapse e
  .next (if u.held then u else u.takeAnchorTime seconds utcOffset flags)

/-! ## Malformed transactions (R169) -/

/-- An event that the argument window held back, as though no command had arrived: at its own instant, with its own stamp
(R168, R169). -/
def execHeld (h : HeldEvent) (s : State) : Host.Outcome State Fault Refusal :=
  match h with
  | .strapSample e straps => execStrapSample e straps s
  | .gateEnd e => execGateEnd e s
  | .monitorTop e => execMonitorTop e s
  | .linkDrop e port receiving => execLinkDrop e port receiving s
  | .linkUp e port => execLinkUp e port s
  | .transmitInstant e => execTransmitInstant e s
  | .tickEgress e port => execTickEgress e port s
  | .tickTxComplete e port => execTickTxComplete e port s
  | .frameReceive e port bytes => execFrameReceive e port bytes s
  | .roundClose e => execRoundClose e s
  | .roundCompletion e => execRoundCompletion e s
  | .slewEnd e => execSlewEnd e s
  | .refPulse e => execRefPulse e s
  | .missInstant e => execMissInstant e s
  | .anchorTimeExpiry e => execAnchorTimeExpiry e s
  | .topOfSecond e => execTopOfSecond e s
  | .halfSecond e => execHalfSecond e s
  | .pulseEnd e out => execPulseEnd e out s
  | .trainEdge e out => execTrainEdge e out s
  | .leapGuardExpiry e => execLeapGuardExpiry e s
  | .rawChange e input level => execRawChange e input level s
  | .filteredEdge e input => execFilteredEdge e input s

/-- The held back events in turn, and what follows them on the state they leave. -/
def takeHeld (held : List HeldEvent) (s : State) (follow : State → State) : Host.Outcome State Fault Refusal :=
  match held with
  | [] => .next (follow s)
  | h :: rest =>
    match execHeld h s with
    | .next t => takeHeld rest t follow
    | .fault f => .fault f
    | .refused r => .refused r

/-- The report of a malformed transaction after what its window held back (R169); none while a reset is held, nor for one that
is not malformed (log entry 30). -/
def reportAfter (w : Window) (malformed : Bool) (s : State) (report : State → State) : Host.Outcome State Fault Refusal :=
  takeHeld w.held s fun v =>
    let u := v.elapse w.rest
    if u.held || !malformed then u else report u

/-- UNKNOWN_COMMAND (R169): answered with REFUSE_ARG. -/
def execUnknownCommand (e : Window) (code : Byte) (s : State) : Host.Outcome State Fault Refusal :=
  reportAfter e (argumentLength code).isNone s fun u => (u.report .command).respond 1 .refuseArg []

/-- TRANSACTION_CUT_SHORT (R169). -/
def execTransactionCutShort (e : Window) (sent : List Byte) (s : State) : Host.Outcome State Fault Refusal :=
  reportAfter e (transactionIncomplete sent) s fun u => u.malformed sent.length

/-- ARGUMENT_WINDOW_OVERRUN (R169): the port ignores the rest of the transaction. -/
def execArgumentWindowOverrun (e : Window) (sent : List Byte) (s : State) : Host.Outcome State Fault Refusal :=
  reportAfter e (transactionIncomplete sent) s fun u => u.malformed sent.length

end Sys2Proof.Machine
end

