-- ==== Sys2Proof/Machine/Dispatch.lean ====
section
/-! DEFINITION. One arm for each command. -/

namespace Sys2Proof.Machine

/-- The effect of a command on everything but the queue. -/
def exec (i : Instr) (s : State) : Host.Outcome State Fault Refusal :=
  match i with
  | .supplyReset e straps => Sys2Proof.Machine.execSupplyReset e straps s
  | .resetPinAssert e => Sys2Proof.Machine.execResetPinAssert e s
  | .resetPinRelease e straps => Sys2Proof.Machine.execResetPinRelease e straps s
  | .commandReset e straps => Sys2Proof.Machine.execCommandReset e straps s
  | .strapSample e straps => Sys2Proof.Machine.execStrapSample e straps s
  | .gateEnd e => Sys2Proof.Machine.execGateEnd e s
  | .monitorTop e => Sys2Proof.Machine.execMonitorTop e s
  | .linkDrop e port receiving => Sys2Proof.Machine.execLinkDrop e port receiving s
  | .linkUp e port => Sys2Proof.Machine.execLinkUp e port s
  | .transmitInstant e => Sys2Proof.Machine.execTransmitInstant e s
  | .tickEgress e port => Sys2Proof.Machine.execTickEgress e port s
  | .tickTxComplete e port => Sys2Proof.Machine.execTickTxComplete e port s
  | .frameReceive e port bytes => Sys2Proof.Machine.execFrameReceive e port bytes s
  | .roundClose e => Sys2Proof.Machine.execRoundClose e s
  | .roundCompletion e => Sys2Proof.Machine.execRoundCompletion e s
  | .slewEnd e => Sys2Proof.Machine.execSlewEnd e s
  | .refPulse e => Sys2Proof.Machine.execRefPulse e s
  | .missInstant e => Sys2Proof.Machine.execMissInstant e s
  | .anchorTimeExpiry e => Sys2Proof.Machine.execAnchorTimeExpiry e s
  | .topOfSecond e => Sys2Proof.Machine.execTopOfSecond e s
  | .halfSecond e => Sys2Proof.Machine.execHalfSecond e s
  | .pulseEnd e out => Sys2Proof.Machine.execPulseEnd e out s
  | .trainEdge e out => Sys2Proof.Machine.execTrainEdge e out s
  | .leapGuardExpiry e => Sys2Proof.Machine.execLeapGuardExpiry e s
  | .rawChange e input level => Sys2Proof.Machine.execRawChange e input level s
  | .filteredEdge e input => Sys2Proof.Machine.execFilteredEdge e input s
  | .readTime e => Sys2Proof.Machine.execReadTime e s
  | .readStatus e => Sys2Proof.Machine.execReadStatus e s
  | .readRound e => Sys2Proof.Machine.execReadRound e s
  | .readPeer e id => Sys2Proof.Machine.execReadPeer e id s
  | .readCapture e => Sys2Proof.Machine.execReadCapture e s
  | .loadConfig e record => Sys2Proof.Machine.execLoadConfig e record s
  | .start e => Sys2Proof.Machine.execStart e s
  | .restart e => Sys2Proof.Machine.execRestart e s
  | .clear e conditions slots => Sys2Proof.Machine.execClear e conditions slots s
  | .anchorTime e seconds utcOffset flags => Sys2Proof.Machine.execAnchorTime e seconds utcOffset flags s
  | .unknownCommand e code => Sys2Proof.Machine.execUnknownCommand e code s
  | .transactionCutShort e sent => Sys2Proof.Machine.execTransactionCutShort e sent s
  | .argumentWindowOverrun e sent => Sys2Proof.Machine.execArgumentWindowOverrun e sent s

end Sys2Proof.Machine
end

