-- ==== Sys2Proof/Machine/Idle.lean ====
section
/-! DEFINITION. What the part does while no command waits (log entry 2): its oscillators may complete a cycle each, and the
events that its own clock and monitor then raise (R7, R17, R18, R156) join the queue in the order of their readings. -/

namespace Sys2Proof.Machine

/-- No time. -/
def Elapsed.none : Elapsed := { main := 0, monitor := 0 }

/-- The time that the k-th idle step takes: at most one cycle of each oscillator, which of them is a free value. -/
def idleElapsed (k : Nat) : Elapsed :=
  { main := if (Config.idleCycle k).1 then 1 else 0, monitor := if (Config.idleCycle k).2 then 1 else 0 }

/-- A command to raise at a reading, where the reading has been reached. -/
def State.due (s : State) (t : Option Timestamp) (i : Instr) : List (Int × Instr) :=
  match t with
  | .none => []
  | .some t => if s.clock.reading.reached t then [(s.clock.reading.diff t, i)] else []

/-- An event put into its place: the one whose instant came longest ago comes first, and of
two at one instant the one that stood first. -/
def insertDue (x : Int × Instr) : List (Int × Instr) → List (Int × Instr)
  | [] => [x]
  | y :: ys => if y.1 ≤ x.1 then x :: y :: ys else y :: insertDue x ys

/-- Events in the order of their instants. -/
def sortDue : List (Int × Instr) → List (Int × Instr)
  | [] => []
  | x :: xs => insertDue x (sortDue xs)

/-- The end of a REF window, where it has been reached, with how long ago (R119). -/
def State.dueMiss (s : State) : List (Int × Instr) :=
  match s.pastMiss with
  | .none => []
  | .some d => if 0 ≤ d then [(d, .missInstant Elapsed.none)] else []

/-- The instant events of the clock that are due, with how long ago each was reached: the ends of REF windows among them
(R7, R119). -/
def State.dueInstants (s : State) : List (Int × Instr) :=
  s.due (s.clock.slew.map (·.finish)) (.slewEnd Elapsed.none)
    ++ s.due s.clock.named.close (.roundClose Elapsed.none)
    ++ s.due s.clock.named.transmit (.transmitInstant Elapsed.none)
    ++ s.due s.clock.named.top (.topOfSecond Elapsed.none)
    ++ s.due s.clock.named.half (.halfSecond Elapsed.none)
    ++ s.due (s.ref.pendingTime.map (·.expiry)) (.anchorTimeExpiry Elapsed.none)
    ++ s.due s.steer.leapGuard (.leapGuardExpiry Elapsed.none)
    ++ (List.finRange 4).flatMap (fun k => s.due s.outs.channels[k].pulseEnd (.pulseEnd Elapsed.none k))
    ++ (List.finRange 4).flatMap (fun k => s.due s.outs.channels[k].edgeReading (.trainEdge Elapsed.none k))
    ++ s.dueMiss

/-- The filtered edge of an input, with the cycles for which its candidate has held, where its filter time has passed
(R156). -/
def State.dueEdge (s : State) (i : Fin 8) : List (Int × Instr) :=
  match s.capture.inputs[i].candidate with
  | .none => []
  | .some c => if s.config.filterCycles ≤ c.held then [((c.held : Int), .filteredEdge Elapsed.none i)] else []

/-- Every event that the part itself raises now, each kind in the order in which its instants came: the monitor's, the
clock's by their readings (R7), and filtered edges by their raw changes (R156). At one instant the spec lets either of two be
first; the order of the list says which (DESIGN CHOICE, log entry 2). The second strap sample brings the strap pins' levels
and is left to the outside. -/
def State.raised (s : State) : List Instr :=
  if s.held then []
  else
    (if s.gateDue then [.gateEnd Elapsed.none] else [])
      ++ (if s.monitor.topDue then [.monitorTop Elapsed.none] else [])
      ++ (if s.clocked then
            (sortDue s.dueInstants ++ sortDue ((List.finRange 8).flatMap s.dueEdge)).map (·.2)
          else [])

/-- The idle step. -/
def State.idle (s : State) : State :=
  let u := (s.elapse (idleElapsed s.idleCount)).setIdleCount (s.idleCount + 1)
  u.setPending (u.pending ++ u.raised)

end Sys2Proof.Machine
end

