-- ==== Sys2Proof/WellFormed.lean ====
section
/-! DEFINITION. What the outside world can bring about: the commands whose operands fit the event they stand for. -/

namespace Sys2Proof

open Machine

/-- A command that can come about: a LOAD_CONFIG has all its 86 argument bytes, an UNKNOWN_COMMAND carries a code that is
not in Table 10-2, and a transaction that is cut short or runs over its window is one whose command was not complete
(R168, R169). Every other command is well-formed whatever its operands. -/
def WellFormed (i : Instr) : Bool :=
  match i with
  | .loadConfig _ record => decide (record.length = 86)
  | .unknownCommand _ code => (argumentLength code).isNone
  | .transactionCutShort _ sent => transactionIncomplete sent
  | .argumentWindowOverrun _ sent => transactionIncomplete sent
  | .supplyReset _ _ | .resetPinAssert _ | .resetPinRelease _ _ | .commandReset _ _ | .strapSample _ _ | .gateEnd _
  | .monitorTop _ | .linkDrop _ _ _ | .linkUp _ _ | .transmitInstant _ | .tickEgress _ _ | .tickTxComplete _ _
  | .frameReceive _ _ _ | .roundClose _ | .roundCompletion _ | .slewEnd _ | .refPulse _ | .missInstant _
  | .anchorTimeExpiry _ | .topOfSecond _ | .halfSecond _ | .pulseEnd _ _ | .trainEdge _ _ | .leapGuardExpiry _
  | .rawChange _ _ _ | .filteredEdge _ _ | .readTime _ | .readStatus _ | .readRound _ | .readPeer _ _ | .readCapture _
  | .start _ | .restart _ | .clear _ _ _ | .anchorTime _ _ _ _ => true

end Sys2Proof
end

