-- ==== Sys2Proof/Safety.lean ====
section
/-! DEFINITION. What counts as a safe run: the invariants that every step keeps, and the words in which the statements
speak. -/

namespace Sys2Proof.Machine

/-! ## Invariants -/

/-- The rate adjustment lies within plus or minus 100,000,000 ru (R8). -/
def State.RateBounded (s : State) : Prop := -100000000 ≤ s.clock.rate ∧ s.clock.rate ≤ 100000000

/-- The capture FIFO holds at most 32 records, and the overflow count is at most 255 (R160). -/
def State.FifoBounded (s : State) : Prop := s.capture.fifo.length ≤ 32 ∧ s.capture.overflow ≤ 255

/-- Each own transmit history holds at most two entries (R36). -/
def State.HistoriesBounded (s : State) : Prop := ∀ p, (s.ports.get p).history.length ≤ 2

/-- Each delay window holds at most 8 samples, none older than 32 rounds (R52, R53). -/
def State.WindowsBounded (s : State) : Prop :=
  ∀ (i : Fin 16) (p : PortId), (s.slots[i].windows.get p).length ≤ 8 ∧
    ∀ x ∈ s.slots[i].windows.get p, ∀ a, x.age = some a → a ≤ 32

/-- The slot of the node's own id is VACANT, and until the straps are sampled every slot is and the node has not started
(R46, R69, R174). -/
def State.OwnSlotVacant (s : State) : Prop :=
  s.slots[s.ownId].liveness = .vacant ∧
    (s.port.strapValid = .notSampled → s.steer.nodeState.clocked = false ∧ ∀ i : Fin 16, s.slots[i].liveness = .vacant)

/-- REF selected is set in ANCHORED, and otherwise at most in ACQUIRE (R95). -/
def State.RefSelectedFits (s : State) : Prop :=
  (s.steer.nodeState = .anchored → s.steer.refSelected = true) ∧
    (s.steer.refSelected = true → s.steer.nodeState = .anchored ∨ s.steer.nodeState = .acquire)

/-! ## Words of the statements -/

/-- The four commands by which a reset begins or ends. -/
def isReset : Instr → Bool
  | .supplyReset _ _ | .resetPinAssert _ | .resetPinRelease _ _ | .commandReset _ _ => true
  | .strapSample _ _ | .gateEnd _ | .monitorTop _ | .linkDrop _ _ _ | .linkUp _ _ | .transmitInstant _ | .tickEgress _ _
  | .tickTxComplete _ _ | .frameReceive _ _ _ | .roundClose _ | .roundCompletion _ | .slewEnd _ | .refPulse _
  | .missInstant _ | .anchorTimeExpiry _ | .topOfSecond _ | .halfSecond _ | .pulseEnd _ _ | .trainEdge _ _
  | .leapGuardExpiry _ | .rawChange _ _ _ | .filteredEdge _ _ | .readTime _ | .readStatus _ | .readRound _ | .readPeer _ _
  | .readCapture _ | .loadConfig _ _ | .start _ | .restart _ | .clear _ _ _ | .anchorTime _ _ _ _ | .unknownCommand _ _
  | .transactionCutShort _ _ | .argumentWindowOverrun _ _ => false

/-- How long ago, by the reading, the instant of an event that the clock raises was reached: negative while it is still to
come, absent while none is named (R7, and R119 for the end of a REF window). -/
def State.sinceInstant (s : State) : Instr → Option Int
  | .slewEnd _ => s.clock.slew.map fun w => s.clock.reading.diff w.finish
  | .roundClose _ => s.clock.named.close.map fun r => s.clock.reading.diff r
  | .transmitInstant _ => s.clock.named.transmit.map fun r => s.clock.reading.diff r
  | .topOfSecond _ => s.clock.named.top.map fun r => s.clock.reading.diff r
  | .halfSecond _ => s.clock.named.half.map fun r => s.clock.reading.diff r
  | .anchorTimeExpiry _ => s.ref.pendingTime.map fun a => s.clock.reading.diff a.expiry
  | .leapGuardExpiry _ => s.steer.leapGuard.map fun r => s.clock.reading.diff r
  | .pulseEnd _ k => s.outs.channels[k].pulseEnd.map fun r => s.clock.reading.diff r
  | .trainEdge _ k => s.outs.channels[k].edge.map fun x => s.clock.reading.diff x.reading
  | .missInstant _ =>
    if s.config.refEnable = true ∧ s.steer.nodeState.running = true ∧ s.ref.state ≠ .absent then
      s.ref.lastPulse.map fun p =>
        s.clock.reading.diff p - s.ref.correction - ((s.ref.missCount : Int) + 1) * 4000000000 - 400000
    else none
  | .supplyReset _ _ | .resetPinAssert _ | .resetPinRelease _ _ | .commandReset _ _ | .strapSample _ _ | .gateEnd _
  | .monitorTop _ | .linkDrop _ _ _ | .linkUp _ _ | .tickEgress _ _ | .tickTxComplete _ _ | .frameReceive _ _ _
  | .roundCompletion _ | .refPulse _ | .rawChange _ _ _ | .filteredEdge _ _ | .readTime _ | .readStatus _ | .readRound _
  | .readPeer _ _ | .readCapture _ | .loadConfig _ _ | .start _ | .restart _ | .clear _ _ _ | .anchorTime _ _ _ _
  | .unknownCommand _ _ | .transactionCutShort _ _ | .argumentWindowOverrun _ _ => none

/-- The state that held back events leave, each taken at its own instant as the command of its name is (R168, R169). -/
def EventsTaken : List HeldEvent → State → State → Prop
  | [], s, t => t = s
  | h :: rest, s, t => ∃ v, exec h.toInstr s = .next v ∧ EventsTaken rest v t

/-- A condition flag (Table 10-1). -/
def State.flag (s : State) (i : Nat) : Bool := s.cond.flags.getLsbD i

/-- The condition flags with one more set, FAULT as before (R165). -/
def ConditionBlock.raise (c : ConditionBlock) (i : Nat) : ConditionBlock := { c with flags := c.flags ||| (1#16 <<< i) }

/-- A counter of 16 bits is advanced by one, saturating at 65,535, and the others of its row keep their values (R26, R66). -/
def Counted {n : Nat} (v w : Vector Nat n) (k : Nat) : Prop :=
  ∀ j : Fin n, w[j] = if j.val = k then min 65535 (v[j] + 1) else v[j]

/-- A port is as before but for one counter advanced by one (R26). -/
def PortCounted (p q : LinkPort) (k : Nat) : Prop := q = { p with counters := q.counters } ∧ Counted p.counters q.counters k

/-- A slot is as before but for one counter advanced by one (R66). -/
def SlotCounted (x y : Slot) (k : Nat) : Prop := y = { x with counters := y.counters } ∧ Counted x.counters y.counters k

/-- What a STEP of `c` that takes the reading to `now` makes of the copies a slot holds, the node state then being `st` (R56):
each estimate falls by c, and outside LISTEN one beyond the offset bound is lost and counted; in LISTEN a difference beyond 64
bits is a free value (log entry 14). A copy attributed to the next close is attributed afresh. -/
def CopiesStepped (cfg : ConfigRecord) (st : NodeState) (c : Int) (now : Timestamp) (x y : Slot) : Prop :=
  (∀ p, x.current.get p = none → y.current.get p = none) ∧
  (∀ p a, x.current.get p = some a → ∃ b, y.current.get p = some b ∧
    b = { a with attributed := b.attributed, estimate := b.estimate, bounded := b.bounded } ∧
    b.attributed = (if a.kind = .nextClose then roundOfClose cfg (nextClose cfg now) else a.attributed) ∧
    (a.estimate = none → b.estimate = none ∧ b.bounded = a.bounded) ∧
    ∀ v, a.estimate = some v →
      (st ≠ .listen → 4194304 < |v - c| → b.estimate = none ∧ b.bounded = true) ∧
      (st = .listen ∨ |v - c| ≤ 4194304 → b.bounded = a.bounded ∧ ∃ w, b.estimate = some w ∧
        (-9223372036854775808 ≤ v - c → v - c ≤ 9223372036854775807 → w = v - c))) ∧
  let lost := (x.current.toList.filter fun o => o.any fun a =>
    a.estimate.any fun v => decide (st ≠ .listen ∧ 4194304 < |v - c|)).length
  (lost = 0 → y.counters = x.counters) ∧
  (0 < lost → ∀ k : Fin 10, y.counters[k] = if k = 9 then min 65535 (x.counters[k] + lost) else x.counters[k])

/-- The state has the values that a reset of a cause leaves (Tables 1-3, 2-10, 3-7, 4-8, 5-1, 6-1, 7-8, 8-5 and 9-4, R165,
R175), with the strap pins' first sample, the rate adjustment and the record that the kind of reset leaves. -/
structure AfterReset (t : State) (cause : ResetCause) (straps : BitVec 4) (rate : Int) (record : Option ConfigRecord) :
    Prop where
  clock : t.clock = { reading := Timestamp.zero, residue := 0, rate := rate, slew := none, stepCount := 0#8,
                      named := { top := none, half := none, close := none, transmit := none } }
  monitor : t.monitor = { phase := 0, topDue := false, warmCount := 0, gatePosition := 0, gateCount := 0, passes := 0,
                          cause := cause, firstStrap := straps }
  ports : ∀ p, (t.ports.get p).up = false ∧ (t.ports.get p).history = [] ∧ (t.ports.get p).egressStep = 0#8 ∧
    (t.ports.get p).tx = none ∧ ∀ k : Fin 16, (t.ports.get p).counters[k] = 0
  slots : ∀ i : Fin 16, t.slots[i] = Slot.reset ∧ t.published.slots[i] = Slot.reset
  published : t.published.round = none
  round : t.round.quiet = 0 ∧ t.round.flight = none ∧ t.round.working = none ∧ t.round.published = Summary.reset rate
  steer : t.steer = Steering.reset
  ref : t.ref = RefUnit.reset
  outs : t.outs = OutputUnit.reset ((record.getD ConfigRecord.builtIn).envelopes .warmup)
  code : t.code = { pendingFrame := none, current := none, referenceStep := 0#8 }
  capture : t.capture = CaptureUnit.reset
  cond : t.cond = { flags := 0#16, fault := false }
  port : t.port.record = record ∧ t.port.locked = false ∧ t.port.strapValid = .notSampled ∧ t.port.restartArmed = false

/-- The transaction is answered and nothing else of the Command Port is touched (R168). -/
def Answered (p q : CommandPort) (sent : Nat) (code : Byte) (data : List Byte) : Prop :=
  q = { p with dataOut := List.replicate sent 0x00#8 ++ code :: data }

end Sys2Proof.Machine
end

