-- ==== Sys2Proof/Certificates/Slice0/Obligations.lean ====
section
/-! DEFINITION. The statements for the provers. In all of them `u` is the state once the time that a command carries has
passed (R3, R17), which changes the reading, the residues, the slew delivered, the monitor's counts, the correction total and
how long candidates have held, and nothing else. -/

open Sys2Proof Sys2Proof.Machine

/-! ## The queue and the passing of time -/

/-- A step takes the command at the front of the queue and runs it on the state with the queue's rest. -/
def Obligations.StepRunsFrontCommand : Prop :=
  ∀ (c : Instr) (rest : List Instr) (s : State), s.pending = c :: rest → step s = exec c (s.setPending rest)

/-- With an empty queue the part idles (log entry 2, the model's choice): each oscillator completes at most one cycle,
whatever the free value says. The events that then join the queue are exactly those due: a gate end of 1,024 monitor cycles
(R18), a monitor top (R144), and while the clock runs every named instant that the reading has reached (R7, R119) and every
filtered edge whose candidate has held for the filter time (R156); each joins once, instants in the order in which they were
reached and filtered edges by their raw changes. While a reset is held nothing joins. Nothing else changes but the idle
count. -/
def Obligations.EmptyQueueIdles : Prop :=
  ∀ s : State, s.pending = [] → ∃ (e : Elapsed) (t : State), let u := s.elapse e
    step s = .next t ∧ e.main ≤ 1 ∧ e.monitor ≤ 1 ∧
      t = { u with pending := t.pending, idleCount := s.idleCount + 1 } ∧
      (u.pins.resetAsserted = true → t.pending = []) ∧
      (u.pins.resetAsserted = false → ∀ i, i ∈ t.pending ↔ i.elapsed = { main := 0, monitor := 0 } ∧
        ((∃ d, i = .gateEnd d ∧ 1024 ≤ u.monitor.gatePosition) ∨ (∃ d, i = .monitorTop d ∧ u.monitor.topDue = true) ∨
          (u.steer.nodeState.clocked = true ∧ ((∃ a, u.sinceInstant i = some a ∧ 0 ≤ a) ∨
            ∃ d k c, i = .filteredEdge d k ∧ u.capture.inputs[k].candidate = some c ∧ 100 * u.config.glitch ≤ c.held)))) ∧
      t.pending.Nodup ∧
      t.pending.Pairwise (fun i j => ∀ a b, u.sinceInstant i = some a → u.sinceInstant j = some b → b ≤ a) ∧
      t.pending.Pairwise (fun i j => ∀ d d' k l x y, i = .filteredEdge d k → j = .filteredEdge d' l →
        u.capture.inputs[k].candidate = some x → u.capture.inputs[l].candidate = some y → y.held ≤ x.held)

/-- Every command answers a next state, and none touches the queue or the idle count. -/
def Obligations.EveryCommandKeepsQueue : Prop :=
  ∀ (c : Instr) (s : State), ∃ t, exec c s = .next t ∧ t.pending = s.pending ∧ t.idleCount = s.idleCount

/-- The clock's advance is the same whether its cycles pass at once or in two parts (R3, R11: the model counts n cycles in
closed form, log entry 22). -/
def Obligations.ClockAdvanceAdds : Prop :=
  ∀ (k : Clock) (m n : Nat), -1000000000000 < k.residue → k.residue < 1000000000000 →
    (∀ w, k.slew = some w → -1000000000000 < w.residue ∧ w.residue < 1000000000000) →
    ((k.advance m).1.advance n).1 = (k.advance (m + n)).1 ∧
      (k.advance m).2 + ((k.advance m).1.advance n).2 = (k.advance (m + n)).2

/-- All that time moves. n cycles of the main oscillator advance the reading by 40 n qns, by the whole qns that the rate
contribution accumulates in the residue (R3), and by the whole qns of a slew in progress, which its term accumulates in the
slew's own residue and which move Delivered (R3, R11); each residue keeps its fraction, of the sign of what it holds (log entry
22). The qns of slew count in the correction total while a last pulse stamp is held (R116; beyond 64 bits a free value, log entry
14), and each candidate of an event input has held n cycles longer (R156). In WARMUP and CONFIG the clock is stopped (R3). In
every node state m cycles of the monitor oscillator move its phase within the monitor second, a top of which becomes due
where the phase wraps (R17, R144), the warm-up counter, which holds at the warm-up count of the reset cause (R19), and the
place in the gate, and the main oscillator's cycles the gate count, which saturates at 262,143 (R18). Nothing else moves, and
while a reset is held nothing passes at all (the model's choice, log entry 6). -/
def Obligations.CyclesAdvanceReading : Prop :=
  ∀ (s : State) (e : Elapsed), let t := s.elapse e; let m := s.monitor
    let splits (total whole rest : Int) : Prop := whole * 1000000000000 + rest = total ∧ |rest| < 1000000000000 ∧
      (0 ≤ total → 0 ≤ rest) ∧ (total ≤ 0 → rest ≤ 0)
    (s.pins.resetAsserted = false → s.steer.nodeState.clocked = true →
      ∃ carry slewed : Int, t.clock.reading = s.clock.reading.plus (40 * (e.main : Int) + carry + slewed) ∧
        splits (s.clock.residue + (e.main : Int) * (40 * s.clock.rate)) carry t.clock.residue ∧
        t.clock = { s.clock with reading := t.clock.reading, residue := t.clock.residue, slew := t.clock.slew } ∧
        (s.clock.slew = none → slewed = 0 ∧ t.clock.slew = none) ∧
        (∀ w, s.clock.slew = some w → ∃ rest, splits (w.residue + (e.main : Int) * (40 * w.term)) slewed rest ∧
          t.clock.slew = some { w with delivered := w.delivered + slewed, residue := rest }) ∧
        t.ref = { s.ref with correction := t.ref.correction } ∧
        (s.ref.lastPulse = none → t.ref.correction = s.ref.correction) ∧
        (s.ref.lastPulse ≠ none → -9223372036854775808 ≤ s.ref.correction + slewed →
          s.ref.correction + slewed ≤ 9223372036854775807 → t.ref.correction = s.ref.correction + slewed) ∧
        t.capture = { s.capture with inputs := t.capture.inputs } ∧
        ∀ k : Fin 8, t.capture.inputs[k].level = s.capture.inputs[k].level ∧
          (s.capture.inputs[k].candidate = none → t.capture.inputs[k].candidate = none) ∧
          ∀ c, s.capture.inputs[k].candidate = some c →
            t.capture.inputs[k].candidate = some { c with held := c.held + e.main }) ∧
    (s.steer.nodeState.clocked = false → t.clock = s.clock ∧ t.ref = s.ref ∧ t.capture = s.capture) ∧
    (s.pins.resetAsserted = false →
      t = { s with clock := t.clock, ref := t.ref, capture := t.capture, monitor := t.monitor } ∧
      t.monitor = { m with
        phase := (m.phase + e.monitor) % 1000000
        topDue := m.topDue || decide (1000000 ≤ m.phase + e.monitor)
        warmCount := min (match m.cause with
          | .powerOn => 16384
          | .pin => 1024
          | .restart => 256) (m.warmCount + e.monitor)
        gatePosition := m.gatePosition + e.monitor
        gateCount := min 262143 (m.gateCount + e.main) }) ∧
    (s.pins.resetAsserted = true → t = s)

/-! ## Resets, warm-up and gates -/

/-- SUPPLY_RESET: the values of a power-on reset (R20, R23): rate adjustment 0, no record. -/
def Obligations.SupplyResetSetsValues : Prop :=
  ∀ (e : Elapsed) (straps : BitVec 4) (s : State), ∃ t, exec (.supplyReset e straps) s = .next t ∧
    AfterReset t .powerOn straps 0 none ∧ t.pins = s.pins ∧ t.pending = s.pending

/-- RESET_PIN_ASSERT: the part is held; every line is low, ALERT and EVENT are released and every flag is clear at once
(R131, R161, R166). The recorded cause and the record stay until the release (log entry 6, the model's choice), and the rate
adjustment is kept. Asserted again it does nothing. -/
def Obligations.PinAssertHolds : Prop :=
  ∀ (e : Elapsed) (s : State),
    (s.pins.resetAsserted = false → ∃ t, exec (.resetPinAssert e) s = .next t ∧
      t.pins = { s.pins with resetAsserted := true } ∧ (∀ k, t.outLevel k = false) ∧ t.alert = false ∧ t.eventLine = false ∧
      AfterReset t s.monitor.cause 0#4 s.clock.rate s.port.record) ∧
    (s.pins.resetAsserted = true → exec (.resetPinAssert e) s = .next s)

/-- RESET_PIN_RELEASE: the values of a pin reset (R20, R23): the rate adjustment is kept, the record emptied. Without an
assertion it only lets time pass (the model's choice, log entry 3). -/
def Obligations.PinReleaseSetsValues : Prop :=
  ∀ (e : Elapsed) (straps : BitVec 4) (s : State),
    (s.pins.resetAsserted = true → ∃ t, exec (.resetPinRelease e straps) s = .next t ∧
      AfterReset t .pin straps s.clock.rate none ∧ t.pins = { s.pins with resetAsserted := false } ∧ t.pending = s.pending) ∧
    (s.pins.resetAsserted = false → exec (.resetPinRelease e straps) s = .next (s.elapse e))

/-- COMMAND_RESET after an accepted RESTART: the values of a command reset (R20, R23): the rate adjustment and the record are
kept. Without an accepted RESTART it only lets time pass (the model's choice, log entry 3). -/
def Obligations.CommandResetSetsValues : Prop :=
  ∀ (e : Elapsed) (straps : BitVec 4) (s : State), s.pins.resetAsserted = false →
    (s.port.restartArmed = true → ∃ t, exec (.commandReset e straps) s = .next t ∧
      AfterReset t .restart straps s.clock.rate s.port.record ∧ t.pins = s.pins ∧ t.pending = s.pending) ∧
    (s.port.restartArmed = false → exec (.commandReset e straps) s = .next (s.elapse e))

/-- While the reset pin is asserted, a command that is no reset changes nothing but the level of an input pin (the model's
choice, log entry 6; of the rules R20, R131 and R169 bear on it). -/
def Obligations.HeldPartIgnores : Prop :=
  ∀ (c : Instr) (s : State), s.pins.resetAsserted = true → isReset c = false →
    ∃ pins, pins.resetAsserted = true ∧ exec c s = .next (s.setPins pins)

/-- STRAP_SAMPLE at the warm-up count: the strap id is the second sample, VALID exactly when both samples are equal (R21). -/
def Obligations.StrapSampleSetsId : Prop :=
  ∀ (e : Elapsed) (straps : BitVec 4) (s : State), let u := s.elapse e
    u.pins.resetAsserted = false → u.port.strapValid = .notSampled → u.monitor.cause.warmUpCount ≤ u.monitor.warmCount →
    exec (.strapSample e straps) s = .next (u.setPort { u.port with
      strapId := straps, strapValid := if straps = u.monitor.firstStrap then .valid else .invalid })

/-- GATE_END but for a failing one in a running state (R18, R19, R25): a count from 61,440 to 163,840 passes, a pass adds one to
the consecutive passes up to 2 and a fail returns them to 0; in FAULT the result has no effect and the passes stay, and the
next gate begins with the cycles beyond 1,024 and the count 0 (both DEDUCED, log entry 27). In WARMUP, with the warm-up
count reached and two passes, the node enters CONFIG and each port takes its PHY line's level; otherwise only the monitor
changes. -/
def Obligations.GateEndCountsPasses : Prop :=
  ∀ (e : Elapsed) (s : State), let u := s.elapse e
    let pass := 61440 ≤ u.monitor.gateCount ∧ u.monitor.gateCount ≤ 163840
    let n := if u.steer.nodeState = .fault then u.monitor.passes
      else if pass then min 2 (u.monitor.passes + 1) else 0
    let m := { u.monitor with gatePosition := u.monitor.gatePosition - 1024, gateCount := 0, passes := n }
    let enters := u.steer.nodeState = .warmup ∧ u.monitor.cause.warmUpCount ≤ u.monitor.warmCount ∧ n = 2
    u.pins.resetAsserted = false → 1024 ≤ u.monitor.gatePosition → (u.steer.nodeState.running = true → pass) →
    (enters → exec (.gateEnd e) s = .next { u with
      monitor := m, steer := { u.steer with nodeState := .config }
      ports := ⟨{ u.ports.a with up := u.pins.link.a }, { u.ports.b with up := u.pins.link.b }⟩ }) ∧
    (¬enters → exec (.gateEnd e) s = .next { u with monitor := m })

/-- A failing GATE_END in a running state is the entry into FAULT (R22, R34, R113, R115, R142, R146): the slew is dropped while
rate, reading, residue and step count stay; class 15, REF selected clear and the counters 0 while estimate, epoch and UTC
values stay; the close in flight is discarded while the published summary and table stay; closes, transmit instants and half
seconds are withdrawn; a tick in progress ends and TX_LOST counts it, the link states and histories staying; REF is ABSENT, its
counts 0 and its last offset kept; every gate phase is MUTED, every pair IDLE, every line low with its pulse end, edge and
symbol withdrawn; both frames are discarded; the next gate begins (with the cycles beyond 1,024, DEDUCED, log entry 27); the
FAULT flag is set. The lamps are dark until the next monitor top, and one that was due before is dropped unless it falls at this
very instant (DEDUCED, log entry 32). All else stays. -/
def Obligations.FailingGateEntersFault : Prop :=
  ∀ (e : Elapsed) (s : State), let u := s.elapse e
    u.pins.resetAsserted = false → 1024 ≤ u.monitor.gatePosition → u.steer.nodeState.running = true →
    ¬(61440 ≤ u.monitor.gateCount ∧ u.monitor.gateCount ≤ 163840) →
    ∃ t, exec (.gateEnd e) s = .next t ∧ t = { u with
      clock := { u.clock with slew := none, named := { u.clock.named with half := none, close := none, transmit := none } }
      monitor := { u.monitor with
        gatePosition := u.monitor.gatePosition - 1024, gateCount := 0, passes := 0
        topDue := u.monitor.topDue && decide (u.monitor.phase = 0) }
      ports := t.ports
      steer := { u.steer with
        nodeState := .fault, refSelected := false, accuracyClass := 15, listenCount := 0, agreementCount := 0,
        excessCount := 0, holdoverAge := 0, atLimitCount := 0
        hostTimescale := u.steer.hostTimescale && decide (u.ref.state ≠ .valid) }
      round := { u.round with flight := none, working := none }
      ref := { u.ref with
        state := .absent, qualCount := 0, missCount := 0, outside := 0, inside := 0, lastPulse := none, fresh := false
        pendingTime := none }
      outs := {
        channels := Vector.replicate 4
          { phase := .muted, high := false, pulseEnd := none, edge := none, tail := none, dark := true }
        first := { phase := .idle, resume := false, closingTop := none }
        second := { phase := .idle, resume := false, closingTop := none }
        lampLatch := u.outs.lampLatch, clockTiming := false }
      code := { u.code with pendingFrame := none, current := none }
      cond := { u.cond with fault := true } } ∧
      (∀ p, let o := u.ports.get p; let q := t.ports.get p
        q = { o with tx := none, counters := q.counters } ∧ (o.tx = none → q.counters = o.counters) ∧
        (o.tx ≠ none → Counted o.counters q.counters 1)) ∧
      (∀ k, t.outLevel k = false) ∧ t.alert = true

/-- MONITOR_TOP (R144): in WARMUP, CONFIG and FAULT the lamp latch takes the set of the node state and no lamp stays dark;
elsewhere the latch is left alone. -/
def Obligations.MonitorTopLatches : Prop :=
  ∀ (e : Elapsed) (s : State), let u := s.elapse e
    u.pins.resetAsserted = false → u.monitor.topDue = true →
    ∃ t, exec (.monitorTop e) s = .next t ∧ t = { u with outs := t.outs, monitor := { u.monitor with topDue := false } } ∧
      (u.steer.nodeState.clocked = false ∨ u.steer.nodeState = .fault →
        t.outs.lampLatch = u.config.envelopes u.steer.nodeState ∧ (∀ k : Fin 4, t.outs.channels[k].dark = false)) ∧
      (u.steer.nodeState.running = true → t.outs = u.outs)

/-! ## The link ports -/

/-- LINK_DROP and LINK_UP (R25, R34). From CONFIG on a port that is UP goes DOWN, LINK_DROPS counts it, RX_ERROR counts a frame
partly in while frames are taken, TX_LOST a tick cut short, and LINK is set; a rising line takes the port UP. A drop of a port
already DOWN moves the pin alone. In WARMUP the line is not followed, and each moves the pin alone. -/
def Obligations.LinkFollowsLine : Prop :=
  ∀ (e : Elapsed) (p : PortId) (receiving : Bool) (s : State), let u := s.elapse e
    u.pins.resetAsserted = false →
    (u.steer.nodeState = .warmup →
      exec (.linkDrop e p receiving) s = .next { u with pins := { u.pins with link := u.pins.link.set false p } } ∧
      exec (.linkUp e p) s = .next { u with pins := { u.pins with link := u.pins.link.set true p } }) ∧
    (u.steer.nodeState ≠ .warmup →
      ((u.ports.get p).up = true → ∃ t, exec (.linkDrop e p receiving) s = .next t ∧
        t = { u with pins := { u.pins with link := u.pins.link.set false p }, ports := t.ports, cond := u.cond.raise 8 } ∧
        (∀ q, q ≠ p → t.ports.get q = u.ports.get q) ∧
        t.ports.get p = { u.ports.get p with up := false, tx := none, counters := (t.ports.get p).counters } ∧
        ∀ k : Fin 16, (t.ports.get p).counters[k] =
          if k = 2 ∨ (k = 3 ∧ receiving = true ∧ u.steer.nodeState.running = true) ∨
            (k = 1 ∧ (u.ports.get p).tx.isSome = true)
          then min 65535 ((u.ports.get p).counters[k] + 1) else (u.ports.get p).counters[k]) ∧
      ((u.ports.get p).up = false →
        exec (.linkDrop e p receiving) s = .next { u with pins := { u.pins with link := u.pins.link.set false p } }) ∧
      exec (.linkUp e p) s = .next { u with
        pins := { u.pins with link := u.pins.link.set true p }
        ports := u.ports.set { u.ports.get p with up := true } p })

/-- TRANSMIT_INSTANT of round n (R29, R30, R31, R34, R36, R114): each port keeps only the history entry of round n − 1; where its
link is UP a tick of round n begins, with the status fields of Table 5-8 as the record stands, and for each of that port's
previous-round stamps, by ascending id, an echo entry of the sender's id, the copy's round modulo 16 and its ingress stamp, the
seconds modulo 256, and the step count of the stamp (R33); where the link is DOWN TX_LOST counts the tick; the next
instant is named one round on. -/
def Obligations.TransmitInstantBeginsTicks : Prop :=
  ∀ (e : Elapsed) (s : State) (at_ : Timestamp), let u := s.elapse e
    let n := BitVec.ofNat 32 ((at_.qns.val - u.port.strapId.toNat * 128000) / u.config.roundQns)
    u.pins.resetAsserted = false → u.steer.nodeState.running = true → u.clock.named.transmit = some at_ →
    u.clock.reading.reached at_ = true →
    ∃ t, exec (.transmitInstant e) s = .next t ∧
      t = { u with
        ports := t.ports
        clock := { u.clock with named := { u.clock.named with transmit := some (at_.plus u.config.roundQns) } } } ∧
      ∀ p, let o := u.ports.get p; let q := t.ports.get p
        q = { o with history := o.history.filter (fun h => h.round = n - 1#32), tx := q.tx, counters := q.counters } ∧
        (o.up = true → ∃ x, q.tx = some x ∧ x.egress = none ∧ x.tick.round = n ∧ x.tick.port = p ∧
          x.tick.sender = u.port.strapId ∧ x.tick.ensemble = u.config.ensemble ∧ x.tick.period = u.config.roundCode ∧
          (let st := x.tick.status; let y := u.steer
            (y.nodeState = .listen → st.state = .listen) ∧ (y.nodeState = .acquire → st.state = .acquire) ∧
            (y.nodeState = .track → st.state = .track) ∧ (y.nodeState = .holdover → st.state = .holdover) ∧
            (y.nodeState = .anchored → st.state = .anchored) ∧
            st.anchored = y.refSelected ∧ st.anchorClass = (if y.refSelected = true then u.config.anchorClass else 0#3) ∧
            (y.nodeState = .listen ∨ y.nodeState = .acquire → st.accuracyClass = 15#4) ∧
            (y.nodeState ≠ .listen → y.nodeState ≠ .acquire → st.accuracyClass = BitVec.ofNat 4 y.accuracyClass) ∧
            st.epochKnown = y.epochKnown ∧ st.utcOffset = BitVec.ofInt 16 y.utc.offset ∧
            st.leapPending = y.utc.pending ∧ st.leapDeletion = y.utc.deletion) ∧
          x.tick.echoes = ((List.finRange 16).filterMap fun i => (u.slots[i].prev.get p).map fun v =>
            { peer := BitVec.ofNat 4 i.val, round16 := BitVec.ofNat 4 (v.round.toNat % 16)
              nanos := BitVec.ofNat 30 (v.stamp.fraction / 4), quarter := BitVec.ofNat 2 (v.stamp.fraction % 4)
              seconds := BitVec.ofNat 8 (v.stamp.seconds % 256) }).take 15 ∧
          x.echoSteps = ((List.finRange 16).filterMap fun i => (u.slots[i].prev.get p).map fun v => v.step).take 15 ∧
          (o.tx = none → q.counters = o.counters)) ∧
        (o.up = false → q.tx = none ∧ (o.tx = none → Counted o.counters q.counters 1))

/-- TICK_EGRESS (R32, R33, R35): the tx stamp is the reading, the stepped flag is set exactly when the step count differs from
the port's egress step count or from that of an echoed ingress stamp, the egress step count becomes the step count, and the
frame carries the check word over what is then written. -/
def Obligations.EgressStampsTick : Prop :=
  ∀ (e : Elapsed) (p : PortId) (s : State) (x : Transmission), let u := s.elapse e
    u.pins.resetAsserted = false → u.steer.nodeState.running = true → (u.ports.get p).tx = some x → x.egress = none →
    let tick := { x.tick with
      stepped := decide (u.clock.stepCount ≠ (u.ports.get p).egressStep ∨ ∃ c ∈ x.echoSteps, c ≠ u.clock.stepCount)
      tx := { seconds := BitVec.ofNat 40 u.clock.reading.seconds, nanos := BitVec.ofNat 30 u.clock.reading.nanos,
              quarter := BitVec.ofNat 2 u.clock.reading.quarter } }
    let q : LinkPort := { u.ports.get p with
      egressStep := u.clock.stepCount
      tx := some { x with
        tick := tick, egress := some { stamp := u.clock.reading, step := u.clock.stepCount }
        frame := u.config.frameOf u.port.strapId p (tick.encode ++ bytes4 (u.config.checkWord tick.encode)) } }
    exec (.tickEgress e p) s = .next { u with ports := u.ports.set q p }

/-- TICK_TX_COMPLETE (R32, R36): TX_SENT counts the tick, and its entry is appended, valid exactly when the step count is that of
the egress stamp; of three entries the oldest goes. -/
def Obligations.TxCompleteRecordsTick : Prop :=
  ∀ (e : Elapsed) (p : PortId) (s : State) (x : Transmission) (g : Egress), let u := s.elapse e
    u.pins.resetAsserted = false → u.steer.nodeState.running = true → (u.ports.get p).tx = some x → x.egress = some g →
    let h := (u.ports.get p).history ++
      [{ round := x.tick.round, tx := g.stamp, step := g.step, valid := decide (u.clock.stepCount = g.step) }]
    ∃ q, exec (.tickTxComplete e p) s = .next { u with ports := u.ports.set q p } ∧
      q = { u.ports.get p with tx := none, sent := x.frame, history := h.drop (h.length - 2), counters := q.counters } ∧
      Counted (u.ports.get p).counters q.counters 0

/-! ## The Receive Filter -/

/-- A frame at a port that is DOWN, or outside the running states, is neither taken nor counted (R24, Table 2-1). At a port that
takes frames one that fails the frame checks of R27 or a structural check of Table 2-7, taken in the order of the table, is
counted by the first it fails and changes nothing else, but that a tick claiming the own id sets ID_CLASH (R39). -/
def Obligations.StructuralChecksDrop : Prop :=
  ∀ (e : Elapsed) (p : PortId) (frame : List Byte) (s : State), let u := s.elapse e
    let body := framePayload frame
    (u.steer.nodeState.running = false ∨ (u.ports.get p).up = false → exec (.frameReceive e p frame) s = .next u) ∧
    ∀ k : Fin 16, u.pins.resetAsserted = false → u.steer.nodeState.running = true → (u.ports.get p).up = true →
      (if frameSound frame = false then some 3
        else if frameDestination frame ≠ u.config.group ∨ frameType frame ≠ u.config.typeCode then some 4
        else match Tick.decode body with
          | none => some 5
          | some tick =>
            if tick.ensemble ≠ u.config.ensemble then some 6
            else if tick.period ≠ u.config.roundCode ∨ u.config.nodes ≤ tick.sender.toNat then some 7
            else if tick.sender = u.port.strapId then some 8
            else none) = some k →
      ∃ t, exec (.frameReceive e p frame) s = .next t ∧
        t = { u with ports := t.ports, cond := if k = 8 then u.cond.raise 7 else u.cond } ∧
        PortCounted (u.ports.get p) (t.ports.get p) k ∧ ∀ q, q ≠ p → t.ports.get q = u.ports.get q

/-- A tick that passes the structural checks and fails its check word is dropped: RX_BADCHECK and the claimed slot's bad-check
counter count it, BADCHECK is set, and nothing else changes (R40). -/
def Obligations.BadCheckDrops : Prop :=
  ∀ (e : Elapsed) (p : PortId) (frame : List Byte) (s : State) (tick : Tick) (body : List Byte), let u := s.elapse e
    u.pins.resetAsserted = false → u.steer.nodeState.running = true → (u.ports.get p).up = true →
    frameSound frame = true → structural u.config u.port.strapId frame = .passes tick body →
    u.config.checkWord (body.take (20 + 6 * tickEchoCount body)) ≠ word4 body (20 + 6 * tickEchoCount body) →
    ∃ t, exec (.frameReceive e p frame) s = .next t ∧
      t = { u with ports := t.ports, slots := t.slots, cond := u.cond.raise 6 } ∧
      PortCounted (u.ports.get p) (t.ports.get p) 9 ∧ (∀ q, q ≠ p → t.ports.get q = u.ports.get q) ∧
      SlotCounted u.slots[tick.sender.toFin] t.slots[tick.sender.toFin] 5 ∧
      ∀ i : Fin 16, i ≠ tick.sender.toFin → t.slots[i] = u.slots[i]

/-- Outside LISTEN a valid copy whose ingress stamp does not lie in [−C, +C) of the boundary it names, nearest the stamp, is
dropped and counted as R41 says, and sets LATE. -/
def Obligations.UntimelyCopyDrops : Prop :=
  ∀ (e : Elapsed) (p : PortId) (frame : List Byte) (s : State) (tick : Tick) (body : List Byte), let u := s.elapse e
    let d := fromNamedBoundary u.config tick.round u.clock.reading
    let c : Int := u.config.closeQns
    let half : Int := (u.config.roundQns / 2 : Nat)
    u.pins.resetAsserted = false → u.steer.nodeState.running = true → u.steer.nodeState ≠ .listen →
    (u.ports.get p).up = true → c < half → frameSound frame = true →
    structural u.config u.port.strapId frame = .passes tick body → checkVerifies u.config body = true → ¬(-c ≤ d ∧ d < c) →
    ∃ t, exec (.frameReceive e p frame) s = .next t ∧
      t = { u with ports := t.ports, slots := t.slots, cond := u.cond.raise 5 } ∧
      PortCounted (u.ports.get p) (t.ports.get p) (if half ≤ d ∨ d ≤ -half then 12 else if c ≤ d then 10 else 11) ∧
      (∀ q, q ≠ p → t.ports.get q = u.ports.get q) ∧
      SlotCounted u.slots[tick.sender.toFin] t.slots[tick.sender.toFin] (if c ≤ d then 2 else 3) ∧
      ∀ i : Fin 16, i ≠ tick.sender.toFin → t.slots[i] = u.slots[i]

/-- The named boundary of R41 is a boundary of that round number modulo 2^32 and none lies nearer the stamp: the own time from
it to the stamp is congruent to stamp − r T_r modulo 2^32 T_r and at most half of that span in magnitude. And the instants that
are named from a reading, at START and after a step (R31, R42, R56, R71, R133, R149): the first close n T_r + C, top of
second and half second strictly after the reading, and the first transmit instant n T_r + id × 32 µs at or after it, the
seconds wrapping at 2^40, the close and the transmit instant being those of round n modulo 2^32. That a reading which
lands exactly on an instant counts so is log entry 5 (DEDUCED). -/
def Obligations.NamedBoundaryIsNearest : Prop :=
  ∀ (cfg : ConfigRecord) (r : BitVec 32) (stamp : Timestamp) (id : Fin 16), let span : Int := (2 ^ 32 * cfg.roundQns : Nat)
    let d := fromNamedBoundary cfg r stamp
    let now := stamp.qns.val
    let first (instant : Nat → Nat) (fits : Nat → Prop) (n : Nat) : Prop :=
      fits (instant n) ∧ ∀ k, fits (instant k) → n ≤ k
    ((∃ k : Int, (stamp.qns.val : Int) = r.toNat * cfg.roundQns + k * span + d) ∧ -span ≤ 2 * d ∧ 2 * d ≤ span) ∧
    (∃ n, let close (k : Nat) := k * cfg.roundQns + cfg.closeQns
      first close (fun x => now < x) n ∧ nextClose cfg stamp = Timestamp.ofInt (close n : Int) ∧
      roundOfClose cfg (nextClose cfg stamp) = BitVec.ofNat 32 n) ∧
    (∃ n, let transmit (k : Nat) := k * cfg.roundQns + id.val * 128000
      first transmit (fun x => now ≤ x) n ∧ nextTransmit cfg id stamp = Timestamp.ofInt (transmit n : Int) ∧
      roundOfTransmit cfg id (nextTransmit cfg id stamp) = BitVec.ofNat 32 n) ∧
    (∃ n, let top (k : Nat) := k * 4000000000
      first top (fun x => now < x) n ∧ nextTop stamp = Timestamp.ofInt (top n : Int)) ∧
    (∃ n, let half (k : Nat) := k * 4000000000 + 2000000000
      first half (fun x => now < x) n ∧ nextHalf stamp = Timestamp.ofInt (half n : Int)) ∧
    ∀ s : State, s.config = cfg → s.ownId = id → s.namedFrom stamp =
      { top := some (nextTop stamp), half := some (nextHalf stamp), close := some (nextClose cfg stamp)
        transmit := some (nextTransmit cfg id stamp) }

/-- A valid copy in time, or any valid copy in LISTEN, is accepted where the slot holds no copy of that round on that port
(R44, R48). Its echo gives the delay outcome by the table of R50 and the sample of R51, which joins the port's window of at
most 8 (R52) and decides the gate (R54); the estimate follows from the filtered delay, outside LISTEN within 2^22 qns (R55);
liveness moves by R49. RX_ACCEPTED and the slot's accepted counter count the copy, RX_CROSSED one whose port field names the
other port, and the slot's counters of discarded, negative, congested and out-of-range copies follow the outcome (R66).
Nothing else of the slot, and no other slot, changes. -/
def Obligations.TimelyCopyIsAccepted : Prop :=
  ∀ (e : Elapsed) (p : PortId) (frame : List Byte) (s : State) (tick : Tick) (body : List Byte), let u := s.elapse e
    let listen := u.steer.nodeState = .listen
    let round := if listen then roundOfClose u.config (nextClose u.config u.clock.reading) else tick.round
    let i := tick.sender.toFin
    let x := u.slots[i]
    u.pins.resetAsserted = false → u.steer.nodeState.running = true → (u.ports.get p).up = true → frameSound frame = true →
    structural u.config u.port.strapId frame = .passes tick body → checkVerifies u.config body = true →
    u.config.closeQns * 2 < u.config.roundQns →
    (listen ∨ (-(u.config.closeQns : Int) ≤ fromNamedBoundary u.config tick.round u.clock.reading ∧
      fromNamedBoundary u.config tick.round u.clock.reading < u.config.closeQns)) →
    (∀ c, x.current.get p = some c → c.attributed ≠ round) →
    ∃ (t : State) (c : Copy) (sample : Option Nat), exec (.frameReceive e p frame) s = .next t ∧
      t = { u with ports := t.ports, slots := t.slots } ∧
      let y := t.slots[i]; let w := x.windows.get p; let t3 := tick.tx.toTimestamp; let t4 := u.clock.reading
      y = { x with
        current := x.current.set (some c) p, liveness := y.liveness, windows := x.windows.set (y.windows.get p) p
        counters := y.counters } ∧
      c.attributed = round ∧ c.roundField = tick.round ∧
      c.kind = (if listen then .nextClose else .named) ∧ c.ingress = t4 ∧ c.ingressStep = u.clock.stepCount ∧
      c.tx = tick.tx ∧ c.status = tick.status ∧ c.stepped = tick.stepped ∧
      c.ownEcho = tick.echoes.find? (fun x => x.peer = u.port.strapId) ∧
      (match c.ownEcho with
        | none => c.outcome = .noEcho ∧ sample = none
        | some b =>
          (tick.stepped = true → c.outcome = .stepped ∧ sample = none) ∧
          (tick.stepped = false → match (u.ports.get p).history.find? (fun h => h.round.extractLsb' 0 4 = b.round16) with
            | none => c.outcome = .missing ∧ sample = none
            | some h =>
              (h.valid = false → c.outcome = .invalidated ∧ sample = none) ∧
              (h.valid = true → ∀ sec : BitVec 40, sec.setWidth 8 = b.seconds → (tick.tx.seconds - sec).toNat < 256 →
                let t2 := WireStamp.toTimestamp { seconds := sec, nanos := b.nanos, quarter := b.quarter }
                let raw := halfEven (t4.diff h.tx - t3.diff t2) 2
                let limit : Int := u.config.maxDelay * 4000
                (raw < 0 → c.outcome = .clamped ∧ sample = some 0) ∧ (limit < raw → c.outcome = .overMax ∧ sample = none) ∧
                (0 ≤ raw → raw ≤ limit → c.outcome = .added ∧ sample = some raw.toNat)))) ∧
      (sample = none → y.windows.get p = w ∧ c.checked = false ∧ c.congested = false) ∧
      (∀ v, sample = some v → c.checked = true ∧
        y.windows.get p = w.drop (w.length - 7) ++ [{ round := round, value := v, age := none, closed := false }] ∧
        (c.congested = true ↔ ∃ d, filteredDelay w = some d ∧ d + 4 * u.config.congestion < v)) ∧
      (filteredDelay (y.windows.get p) = none → c.estimate = none ∧ c.bounded = false) ∧
      (∀ d : Nat, filteredDelay (y.windows.get p) = some d → let v := (t3.plus d).diff t4
        (listen ∨ |v| ≤ 4194304 → c.estimate = some v ∧ c.bounded = false) ∧
        (¬listen → 4194304 < |v| → c.estimate = none ∧ c.bounded = true)) ∧
      y.liveness = (match x.liveness with
        | .vacant | .silent => if y.windows.a = [] ∧ y.windows.b = [] then .heard else .active
        | .heard => if sample = none then .heard else .active
        | .active => .active) ∧
      (∀ k : Fin 10, y.counters[k] =
        if k = (if p = .a then 0 else 1) ∨
          (k = 6 ∧ (c.outcome = .stepped ∨ c.outcome = .missing ∨ c.outcome = .invalidated ∨ c.outcome = .overMax)) ∨
          (k = 7 ∧ c.outcome = .clamped) ∨ (k = 8 ∧ c.congested = true) ∨ (k = 9 ∧ c.bounded = true)
        then min 65535 (x.counters[k] + 1) else x.counters[k]) ∧
      (∀ j : Fin 16, j ≠ i → t.slots[j] = u.slots[j]) ∧ (∀ q, q ≠ p → t.ports.get q = u.ports.get q) ∧
      t.ports.get p = { u.ports.get p with counters := (t.ports.get p).counters } ∧
      ∀ k : Fin 16, (t.ports.get p).counters[k] =
        if k = 15 ∨ (k = 14 ∧ tick.port ≠ p) then min 65535 ((u.ports.get p).counters[k] + 1)
        else (u.ports.get p).counters[k]

/-- A second copy from one sender on one port for one round is dropped and counted, and the copy held first is kept unchanged
(R43). -/
def Obligations.DuplicateCopyDrops : Prop :=
  ∀ (e : Elapsed) (p : PortId) (frame : List Byte) (s : State) (tick : Tick) (body : List Byte) (c : Copy), let u := s.elapse e
    let listen := u.steer.nodeState = .listen
    let round := if listen then roundOfClose u.config (nextClose u.config u.clock.reading) else tick.round
    let i := tick.sender.toFin
    u.pins.resetAsserted = false → u.steer.nodeState.running = true → (u.ports.get p).up = true → frameSound frame = true →
    structural u.config u.port.strapId frame = .passes tick body → checkVerifies u.config body = true →
    u.config.closeQns * 2 < u.config.roundQns →
    (listen ∨ (-(u.config.closeQns : Int) ≤ fromNamedBoundary u.config tick.round u.clock.reading ∧
      fromNamedBoundary u.config tick.round u.clock.reading < u.config.closeQns)) →
    u.slots[i].current.get p = some c → c.attributed = round →
    ∃ t, exec (.frameReceive e p frame) s = .next t ∧ t = { u with ports := t.ports, slots := t.slots } ∧
      PortCounted (u.ports.get p) (t.ports.get p) 13 ∧ (∀ q, q ≠ p → t.ports.get q = u.ports.get q) ∧
      SlotCounted u.slots[i] t.slots[i] 4 ∧ ∀ j : Fin 16, j ≠ i → t.slots[j] = u.slots[j]

/-! ## The Round Engine and the Steering Controller -/

/-- ROUND_CLOSE of round n (R57, R70, R74, R120): each slot's copies attributed to n become its round copies and leave their
previous-round stamps, no current-round copy stays, and samples are marked; the quiet count moves; the flight takes the slots
with their lanes, the node state, epoch, UTC values, REF selection, a fresh REF offset and the step count; the fresh mark is
cleared; the next close is named one round on; PORT_SKEW is set exactly where R59 says, and no other condition. -/
def Obligations.RoundCloseTakes : Prop :=
  ∀ (e : Elapsed) (s : State) (at_ : Timestamp), let u := s.elapse e
    let n := BitVec.ofNat 32 ((at_.qns.val - u.config.closeQns) / u.config.roundQns)
    let skewed (v : Vector Slot 16) : Prop := ∃ (i : Fin 16) (a b : Copy) (x y : Int),
      v[i].round = ⟨some a, some b⟩ ∧ a.checked = true ∧ b.checked = true ∧ a.congested = false ∧ b.congested = false ∧
      a.estimate = some x ∧ b.estimate = some y ∧ u.config.portSkew < |x - y|
    u.pins.resetAsserted = false → u.steer.nodeState.running = true → u.clock.named.close = some at_ →
    u.clock.reading.reached at_ = true → u.round.flight = none →
    ∃ t, exec (.roundClose e) s = .next t ∧
      t = { u with
        clock := { u.clock with named := { u.clock.named with close := some (at_.plus u.config.roundQns) } }
        ref := { u.ref with fresh := false }, slots := t.slots, round := t.round, cond := t.cond } ∧
      t.round = { quiet := t.round.quiet, working := t.round.working, published := u.round.published,
                  flight := some { round := n, slots := t.slots, nodeState := u.steer.nodeState
                                   epochKnown := u.steer.epochKnown, utc := u.steer.utc
                                   refSelected := u.steer.refSelected
                                   refOffset := if u.ref.fresh then u.ref.lastOffset else none
                                   stepCount := u.clock.stepCount, overtaken := false } } ∧
      (∀ (i : Fin 16) (p : PortId) (c : Copy), t.slots[i].round.get p = some c → c.status.state.settled = true →
        t.round.quiet = 0) ∧
      ((∀ (i : Fin 16) (p : PortId) (c : Copy), t.slots[i].round.get p = some c → c.status.state.settled = false) →
        t.round.quiet = min 16 (u.round.quiet + 1)) ∧
      (skewed t.slots → t.cond = u.cond.raise 4) ∧ (¬skewed t.slots → t.cond = u.cond) ∧
      ∀ i : Fin 16, let x := u.slots[i]; let y := t.slots[i]
        y = { x with current := ⟨none, none⟩, round := y.round, prev := y.prev, windows := y.windows, lane := y.lane } ∧
        ∀ p, y.round.get p = (x.current.get p).filter (fun c => c.attributed = n) ∧
          y.prev.get p = (y.round.get p).map (fun c => { stamp := c.ingress, round := c.roundField, step := c.ingressStep }) ∧
          y.windows.get p = (x.windows.get p).map fun w => { w with closed := true }

/-- The lane a close selects (R58): void when no round copy has an estimate without being congested; otherwise the estimate of
such a copy, checked before unchecked, then the port with the smaller filtered delay, an absent one counting as
the larger, then port A, with that copy's status. -/
def Obligations.LaneIsPreferred : Prop :=
  ∀ (e : Elapsed) (s : State) (at_ : Timestamp), let u := s.elapse e
    u.pins.resetAsserted = false → u.steer.nodeState.running = true → u.clock.named.close = some at_ →
    u.clock.reading.reached at_ = true → u.round.flight = none →
    ∃ t, exec (.roundClose e) s = .next t ∧ ∀ i : Fin 16, let y := t.slots[i]
      (y.lane = none ↔ ∀ p c, y.round.get p = some c → c.estimate ≠ none → c.congested = true) ∧
      ∀ l, y.lane = some l → ∃ c, y.round.get l.port = some c ∧ c.estimate = some l.value ∧ c.congested = false ∧
        l.status = c.status ∧
        ∀ q d, q ≠ l.port → y.round.get q = some d → d.estimate ≠ none → d.congested = false →
          (d.checked = true → c.checked = true) ∧
          (c.checked = d.checked → match filteredDelay (y.windows.get l.port), filteredDelay (y.windows.get q) with
            | some dc, some dd => dc ≤ dd ∧ (dc = dd → l.port = .a)
            | some _, none => True
            | none, some _ => False
            | none, none => l.port = .a)

/-- ROUND_COMPLETION (R8, R9, R10, R13, R72, R92, R102, R112): the flight ends; the summary and the table are published with
the round's number; the class follows the estimate in the settled states and is 15 elsewhere; a HOLD leaves the clock as it
was; a SLEW settles the slew before it, applies the rate step within the clamp, and begins a slew no greater than the limit; a
STEP jumps the reading, counts it, drops the slew, names the instants afresh, invalidates the histories and sets STEPPED. A HOLD
and a SLEW leave the copies received since the close, the slots' counters, the last REF offset and a pending anchor time. With
a STEP of c every held copy's estimate falls by c and is lost, and counted, beyond the offset bound, and a copy attributed to
the next close is attributed afresh (R56); the last REF offset falls by c within half a second either way (R120) and the expiry
of a pending anchor time moves by c (R123). A forward step that jumps over the leap of the UTC values then held, the record's
where neither an offer nor the majority sets others, carries it out and sets the guard 2 s on (R127; log entry 9, DEDUCED);
otherwise the leap guard moves by c (R125). The pending frame goes or is composed afresh, and the current frame stays only in
its own second (R152). The correction total takes the remainder that a SLEW settles, or the step amount (R116; beyond 64 bits a
free value, log entry 14). And the completion sets exactly these conditions: STARVED (R79), CLAMPED (R99), STEPPED (R13),
SPLIT (R84, R121), OSC_RANGE (R101; not at a change of state, DEDUCED, log entry 23) and SUSPECT (R62). -/
def Obligations.RoundCompletionPublishes : Prop :=
  ∀ (e : Elapsed) (s : State) (f : Flight), let u := s.elapse e
    u.pins.resetAsserted = false → u.steer.nodeState.running = true → u.round.flight = some f →
    ∃ t, exec (.roundCompletion e) s = .next t ∧
      t = { u with
        clock := t.clock, ports := t.ports, slots := t.slots, published := t.published, round := t.round
        steer := t.steer, ref := t.ref, outs := t.outs, code := t.code, cond := t.cond } ∧
      let m := t.round.published
      t.round = { quiet := u.round.quiet, flight := none, working := some m, published := m } ∧
      t.published.round = some f.round ∧ (∀ i : Fin 16, t.published.slots[i] = { t.slots[i] with current := ⟨none, none⟩ }) ∧
      t.steer.nodeState.running = true ∧
      m.round = some f.round ∧ m.stateAtClose = f.nodeState ∧ m.stateAfter = t.steer.nodeState ∧ m.overtaken = f.overtaken ∧
      m.quiet = u.round.quiet ∧ m.rateAfter = t.clock.rate ∧ m.estimate = t.steer.estimate ∧
      m.accuracyClass = t.steer.accuracyClass ∧ m.stepCount = t.clock.stepCount ∧
      t.steer.accuracyClass = (if t.steer.nodeState.settled then min 15 (bitLength t.steer.estimate) else 15) ∧
      t.cond.fault = u.cond.fault ∧
      (∀ i : Fin 16, t.flag i = true ↔ u.flag i = true ∨
        (i = 0 ∧ m.source = .none ∧ f.overtaken = false) ∨
        (i = 1 ∧ ∃ a c, m.action = .slew a ∧ m.correction = some c ∧ (u.config.slewLimit : Int) < |c|) ∨
        (i = 2 ∧ ∃ c, m.action = .step c) ∨
        (i = 3 ∧ ((f.overtaken = false ∧ ∃ z, m.target = some (z, .split)) ∨
          (u.ref.state = .valid ∧ t.ref.state = .distrusted))) ∨
        (i = 9 ∧ m.rateStep ≠ none ∧ t.steer.nodeState = u.steer.nodeState ∧ t.steer.refSelected = u.steer.refSelected ∧
          |t.clock.rate| = 100000000 ∧ 7 ≤ u.steer.atLimitCount) ∨
        (i = 14 ∧ ∃ j : Fin 16, u.slots[j].suspect = false ∧ t.slots[j].suspect = true)) ∧
      let counts (q : Int) : Prop := (u.ref.lastPulse = none → t.ref.correction = u.ref.correction) ∧
        (u.ref.lastPulse ≠ none → -9223372036854775808 ≤ u.ref.correction + q → u.ref.correction + q ≤ 9223372036854775807 →
          t.ref.correction = u.ref.correction + q)
      let unmoved : Prop := t.ref.lastOffset = u.ref.lastOffset ∧ t.ref.pendingTime = u.ref.pendingTime ∧
        ∀ i : Fin 16, t.slots[i].current = u.slots[i].current ∧ t.slots[i].counters = u.slots[i].counters
      match m.action with
      | .hold => unmoved ∧ m.rateStep = none ∧ t.clock = u.clock ∧ t.ports = u.ports ∧ t.code = u.code ∧
          t.ref.correction = u.ref.correction ∧ t.steer.leapGuard = u.steer.leapGuard
      | .slew a => ∃ r, let start := match u.clock.slew with
            | none => u.clock.reading
            | some w => u.clock.reading.plus (w.amount - w.delivered)
          unmoved ∧ m.rateStep = some r ∧ |a| ≤ u.config.slewLimit ∧ t.ports = u.ports ∧ t.code = u.code ∧
          (u.clock.slew = none → t.ref.correction = u.ref.correction) ∧
          (∀ w, u.clock.slew = some w → counts (w.amount - w.delivered)) ∧ t.steer.leapGuard = u.steer.leapGuard ∧
          t.clock = { u.clock with
            reading := start, rate := max (-100000000) (min 100000000 (u.clock.rate + r)), slew := t.clock.slew } ∧
          (a = 0 → t.clock.slew = none) ∧
          (a ≠ 0 → ∃ term, term * u.config.roundMs = 250000 * a ∧ t.clock.slew = some
            { amount := a, delivered := 0, residue := 0, term := term, finish := start.plus u.config.roundQns })
      | .step c => let r := u.clock.reading.plus c
          m.rateStep = none ∧ t.flag 2 = true ∧
          t.clock = { u.clock with
            reading := r, slew := none, stepCount := u.clock.stepCount + 1#8, named := u.namedFrom r } ∧
          (∀ p, t.ports.get p = { u.ports.get p with
            history := (u.ports.get p).history.map fun h => { h with valid := false } }) ∧
          t.steer.nodeState = .acquire ∧
          (∀ i : Fin 16, CopiesStepped u.config .acquire c r u.slots[i] t.slots[i]) ∧ counts c ∧
          (u.ref.lastOffset = none → t.ref.lastOffset = none) ∧
          (∀ o, u.ref.lastOffset = some o → ∃ z k : Int, t.ref.lastOffset = some z ∧ z = o - c + k * 4000000000 ∧
            -2000000000 ≤ z ∧ z < 2000000000) ∧
          t.ref.pendingTime = u.ref.pendingTime.map (fun a => { a with expiry := a.expiry.plus c }) ∧
          (∃ w : UtcValues,
            ((u.steer.epochKnown = true ∨ f.offer u.config = none) → (t.steer.hostTimescale = true ∨ u.steer.leapGuard ≠ none) →
              w = u.steer.utc) ∧
            if 0 < c ∧ w.leapJumped u.clock.reading c = true
            then t.steer.utc = w.leap ∧ t.steer.leapGuard = some (r.plus 8000000000)
            else t.steer.utc = w ∧ t.steer.leapGuard = u.steer.leapGuard.map fun g => g.plus c) ∧
          t.code = { u.code with
            pendingFrame := if 2000000000 ≤ r.fraction
              then some (t.composeFrame ((r.seconds + 1) % 1099511627776) u.code.referenceStep) else none
            current := u.code.current.filter fun f => f.second = BitVec.ofNat 40 r.seconds }

/-- The decision at a completion (R98, R99, R101, R103 to R111, R126). An overtaken round decides HOLD without a rate step and
has no correction; of the record it leaves all as it was (node state, REF selected, counters, epoch, UTC values) but that in
HOLDOVER the holdover age advances and the estimate follows it by Table 5-6, the class follows the estimate, and the
host-timescale flag may go with the REF state. Otherwise an epoch offer is adopted
by a STEP; a reference selected and no longer usable is released; one usable and not selected is entered, from TRACK and
HOLDOVER only with a fresh offset; a round steered by REF is corrected by the fresh offset or 0; the rest is Table 5-3. A
change of state or of REF selected returns the counters to 0 (the at-limit count too, DEDUCED, log entry 23), and otherwise a
counter that Table 5-2 does not move in the state stays; the estimate and the estimate at holdover entry follow Table 5-6; eight orders at the
rate limit set OSC_RANGE, and the settled
lanes' majority sets the UTC values. A forward STEP that jumps over the leap of the values so set carries it out (R127; log
entry 9, DEDUCED). The epoch offer (R87): formed in ACQUIRE, TRACK and HOLDOVER with the epoch unknown from the
full-width values (t3 + D) − t4 of the slots and copies that R87 admits, by R58's preference between two, at least f + 1 of them;
its mean is that of the values left when ⌊(m − 1)/2⌋ are trimmed at each end; at least f + 1 values lie within the
agreement band of it, and their number is the agreeing count; its UTC values are those that most of the agreeing carry, on
a tie those of the lowest id that carries any of the tied (DEDUCED, log entry 18). -/
def Obligations.OrdinaryDecisions : Prop :=
  ∀ (e : Elapsed) (s : State) (f : Flight), let u := s.elapse e; let g := u.config; let x := u.steer
    u.pins.resetAsserted = false → x.nodeState.running = true → u.round.flight = some f →
    ∃ t, exec (.roundCompletion e) s = .next t ∧
      let m := t.round.published; let y := t.steer
      let aged : Prop := x.nodeState = .holdover
      let settled (st : SenderState) : Prop := st = .track ∨ st = .holdover ∨ st = .anchored
      let fits (i : Fin 16) (p : PortId) (c : Copy) (d : Nat) : Prop := f.slots[i].round.get p = some c ∧
        settled c.status.state ∧ c.status.epochKnown = true ∧ filteredDelay (f.slots[i].windows.get p) = some d ∧
        c.congested = false ∧ c.ingressStep = f.stepCount
      let gives (l : SetLane) : Prop := f.slots[l.id].liveness = .active ∧ f.slots[l.id].suspect = false ∧
        ∃ (p : PortId) (c : Copy) (d : Nat), fits l.id p c d ∧ l.value = (c.tx.toTimestamp.plus d).diff c.ingress ∧
          l.status = some c.status ∧ ∀ q c' d', q ≠ p → fits l.id q c' d' →
            (c'.checked = true → c.checked = true) ∧ (c.checked = c'.checked → d ≤ d' ∧ (d = d' → p = .a))
      let carries (v : UtcValues) (l : SetLane) : Bool := l.status.any fun st =>
        decide (v = { offset := st.utcOffset.toInt, pending := st.leapPending, deletion := st.leapDeletion })
      (∃ l : List SetLane, l.Pairwise (fun a b => a.id < b.id) ∧ (∀ z, z ∈ l ↔ gives z) ∧
        let k := (l.length - 1) / 2; let n := l.length - 2 * k
        let mean := halfEven ((((sortLanes l).drop k).take n).map (·.value)).sum n
        let agreeing := l.filter fun z => decide (|z.value - mean| ≤ (g.band : Int))
        let number (v : UtcValues) : Nat := (agreeing.filter (carries v)).length
        (f.offer g ≠ none ↔ f.epochKnown = false ∧
          (f.nodeState = .acquire ∨ f.nodeState = .track ∨ f.nodeState = .holdover) ∧
          g.tolerance + 1 ≤ l.length ∧ g.tolerance + 1 ≤ agreeing.length) ∧
        (f.offer g = none → m.offer = none) ∧
        ∀ o, f.offer g = some o → o.mean = mean ∧ o.agreeing = agreeing.length ∧ m.offer = some (mean, agreeing.length) ∧
          (∀ v, number v ≤ number o.utc) ∧
          ∃ z ∈ agreeing, carries o.utc z = true ∧
            ∀ w ∈ agreeing, ∀ v, carries v w = true → number v = number o.utc → z.id ≤ w.id) ∧
      (f.overtaken = true → m.action = .hold ∧ m.rateStep = none ∧ m.correction = none ∧
        y = { x with
          hostTimescale := y.hostTimescale, accuracyClass := y.accuracyClass
          holdoverAge := if aged then min 65535 (x.holdoverAge + 1) else x.holdoverAge
          estimate := if aged then min 2147483647 (x.holdoverEntry + y.holdoverAge * g.growth) else x.estimate } ∧
        y.accuracyClass = (if x.nodeState = .track ∨ x.nodeState = .holdover ∨ x.nodeState = .anchored
          then min 15 (bitLength y.estimate) else 15) ∧
        (y.hostTimescale = true ↔ x.hostTimescale = true ∧ (u.ref.state = .valid → t.ref.state = .valid)) ∧
        t.flag 9 = u.flag 9) ∧
      (f.overtaken = false →
      let corrected (gain : Nat) (c : Int) : Prop :=
        m.action = .slew (max (-(g.slewLimit : Int)) (min g.slewLimit c)) ∧
          m.rateStep = some (halfEven (250000 * c) (g.roundMs * 2 ^ gain)) ∧ ((g.slewLimit : Int) < |c| → t.flag 1 = true)
      let within (c : Int) : Prop := |c| ≤ g.stepThreshold
      let usable : Prop := g.refEnable = true ∧ t.ref.state = .valid ∧ x.epochKnown = true
      let adopts : Prop := x.epochKnown = false ∧ f.offer g ≠ none ∧
        (x.nodeState = .acquire ∨ x.nodeState = .track ∨ x.nodeState = .holdover)
      let enters : Prop := usable ∧ (x.nodeState = .listen ∨ x.nodeState = .acquire ∨
        ((x.nodeState = .track ∨ x.nodeState = .holdover) ∧ f.refOffset ≠ none))
      let changed : Prop := y.nodeState ≠ x.nodeState ∨ y.refSelected ≠ x.refSelected
      let votes : List UtcValues := (f.setS u.ownId).filterMap fun l => (l.status.filter fun st => st.epochKnown).map fun st =>
        { offset := st.utcOffset.toInt, pending := st.leapPending, deletion := st.leapDeletion }
      let open_ : Prop := y.hostTimescale = false ∧ x.leapGuard = none ∧ y.epochKnown = true
      let sets (v : UtcValues) : Prop := match m.action with
        | .step c =>
          if 0 < c ∧ v.leapJumped u.clock.reading c = true
          then y.utc = v.leap ∧ y.leapGuard = some ((u.clock.reading.plus c).plus 8000000000)
          else y.utc = v ∧ y.leapGuard = x.leapGuard.map fun g => g.plus c
        | _ => y.utc = v ∧ y.leapGuard = x.leapGuard
      (∀ o, adopts → f.offer g = some o → m.action = .step o.mean ∧ y.nodeState = .acquire ∧
        y.refSelected = x.refSelected ∧ y.agreementCount = 0 ∧ y.epochKnown = true ∧ sets o.utc) ∧
      (¬adopts → x.refSelected = true → ¬usable → m.action = .hold ∧ m.rateStep = none ∧ y.refSelected = false ∧
        y.epochKnown = x.epochKnown ∧
        y.nodeState = if x.nodeState = .anchored then (if f.peerRange g = .starved then .holdover else .track)
          else x.nodeState) ∧
      (f.nodeState = .anchored ∨ (f.nodeState = .acquire ∧ f.refSelected = true) →
        m.source = .ref ∧ m.correction = some (f.refOffset.getD 0)) ∧
      (¬adopts → x.refSelected = true → usable → ∀ c, m.correction = some c → y.epochKnown = x.epochKnown ∧
        (x.nodeState = .acquire → y.refSelected = true ∧
          (¬within c → m.action = .step c ∧ y.nodeState = .acquire ∧ y.agreementCount = 0) ∧
          (within c → corrected g.acquireGain c ∧
            let n := if f.refOffset = none then x.agreementCount
              else if |c| ≤ g.band then min 8 (x.agreementCount + 1) else 0
            (n = 8 → y.nodeState = .anchored ∧ y.agreementCount = 0) ∧
            (n ≠ 8 → y.nodeState = .acquire ∧ y.agreementCount = n))) ∧
        (x.nodeState = .anchored → y.refSelected = true ∧
          (within c → corrected g.trackGain c ∧ y.nodeState = .anchored) ∧
          (¬within c → m.action = .step c ∧ y.nodeState = .acquire))) ∧
      (¬adopts → x.refSelected = false → enters → y.refSelected = true ∧ y.epochKnown = true ∧
        (x.nodeState = .listen ∨ x.nodeState = .acquire → m.action = .hold ∧ y.nodeState = .acquire) ∧
        (x.nodeState = .track ∨ x.nodeState = .holdover → ∀ o, f.refOffset = some o →
          ((g.band : Int) < |o| → m.action = .hold ∧ y.nodeState = .acquire) ∧
          (|o| ≤ g.band → y.nodeState = .anchored ∧
            (∀ c, m.correction = some c → within c → corrected g.trackGain c) ∧
            ((∀ c, m.correction = some c → ¬within c) → m.action = .hold)))) ∧
      (¬adopts → x.refSelected = false → x.nodeState ≠ .anchored → ¬enters → y.refSelected = false ∧
        (x.nodeState ≠ .listen ∨ y.nodeState = .listen → y.epochKnown = x.epochKnown) ∧
        match x.nodeState, m.correction with
        | .listen, none => m.action = .hold ∧ y.nodeState = .listen ∧ y.listenCount = min 4 (x.listenCount + 1)
        | .listen, some c =>
          (x.listenCount < 3 → m.action = .hold ∧ y.nodeState = .listen ∧ y.listenCount = x.listenCount + 1) ∧
          (3 ≤ x.listenCount → m.action = .step c ∧ y.nodeState = .acquire ∧ y.listenCount = 0 ∧
            y.epochKnown = (x.epochKnown || (f.relaxed && (f.used g u.ownId u.round.quiet).2.any SetLane.known)))
        | .acquire, none => m.action = .hold ∧ y.nodeState = .acquire ∧ y.agreementCount = x.agreementCount
        | .acquire, some c =>
          (¬within c → m.action = .step c ∧ y.nodeState = .acquire ∧ y.agreementCount = 0) ∧
          (within c → corrected g.acquireGain c ∧
            ((g.band : Int) < |c| → y.nodeState = .acquire ∧ y.agreementCount = 0) ∧
            (|c| ≤ g.band → x.agreementCount < 7 → y.nodeState = .acquire ∧ y.agreementCount = x.agreementCount + 1) ∧
            (|c| ≤ g.band → 7 ≤ x.agreementCount → y.nodeState = .track ∧ y.agreementCount = 0))
        | .track, none => m.action = .hold ∧ y.nodeState = .holdover ∧ y.holdoverAge = 1 ∧ y.holdoverEntry = x.estimate ∧
          y.estimate = min 2147483647 (x.estimate + g.growth)
        | .track, some c =>
          (within c → corrected g.trackGain c ∧ y.nodeState = .track ∧ y.excessCount = 0) ∧
          (¬within c → x.excessCount < 2 → m.action = .hold ∧ y.nodeState = .track ∧ y.excessCount = x.excessCount + 1) ∧
          (¬within c → 2 ≤ x.excessCount → m.action = .step c ∧ y.nodeState = .acquire ∧ y.excessCount = 0)
        | .holdover, none => m.action = .hold ∧ y.nodeState = .holdover ∧ y.holdoverAge = min 65535 (x.holdoverAge + 1) ∧
          y.estimate = min 2147483647 (x.holdoverEntry + y.holdoverAge * g.growth)
        | .holdover, some c =>
          (within c → corrected g.trackGain c ∧ y.nodeState = .track) ∧
          (¬within c → m.action = .step c ∧ y.nodeState = .acquire)
        | _, _ => True) ∧
      (y.nodeState ≠ .holdover → y.estimate = m.roundEstimate.getD x.estimate ∧ y.holdoverEntry = x.holdoverEntry) ∧
      (y.nodeState = .holdover → x.nodeState ≠ .holdover →
        y.estimate = min 2147483647 (x.estimate + g.growth) ∧ y.holdoverEntry = x.estimate) ∧
      (y.nodeState = .holdover → x.nodeState = .holdover →
        y.estimate = min 2147483647 (x.holdoverEntry + y.holdoverAge * g.growth) ∧ y.holdoverEntry = x.holdoverEntry) ∧
      (¬changed → (x.nodeState ≠ .listen → y.listenCount = x.listenCount) ∧
        (x.nodeState ≠ .acquire → y.agreementCount = x.agreementCount) ∧
        (x.nodeState ≠ .track → y.excessCount = x.excessCount) ∧
        (x.nodeState ≠ .holdover → y.holdoverAge = x.holdoverAge)) ∧
      (changed → y.listenCount = 0 ∧ y.agreementCount = 0 ∧ y.excessCount = 0 ∧ y.atLimitCount = 0 ∧
        y.holdoverAge = if y.nodeState = .holdover ∧ x.nodeState ≠ .holdover then 1 else 0) ∧
      (changed ∨ m.rateStep = none → t.flag 9 = u.flag 9) ∧
      (¬changed → m.rateStep = none → y.atLimitCount = x.atLimitCount) ∧
      (¬changed → m.rateStep ≠ none →
        (|t.clock.rate| ≠ 100000000 → y.atLimitCount = 0 ∧ t.flag 9 = u.flag 9) ∧
        (|t.clock.rate| = 100000000 → x.atLimitCount < 7 → y.atLimitCount = x.atLimitCount + 1 ∧ t.flag 9 = u.flag 9) ∧
        (|t.clock.rate| = 100000000 → 7 ≤ x.atLimitCount → y.atLimitCount = 0 ∧ t.flag 9 = true)) ∧
      (¬adopts → (∀ v : UtcValues, open_ → votes.length < 2 * votes.count v → sets v) ∧
        (¬(open_ ∧ ∃ w, votes.length < 2 * votes.count w) → sets x.utc)))

/-- A starved round (R79): no set of 2f + 1 lanes, and no steering by REF. It has no correction, no aggregate, no set and no
trimmed lane, its source is NONE, STARVED is set, and trims and suspicion stay in every slot that does not become VACANT.
And the completion work on every slot, starved round or not (R60): misses and liveness (R61), trims (R62), agreements (R63),
the verdict with SUMMARY (R64, R65), the ages of its samples (R53), and SUSPECT where a slot becomes suspect.
And the sets of a round (R75 to R78, R85, R86). A slot offers its lane where it is ACTIVE and not suspect, its lane is not void
and carries the own epoch-known flag, which in LISTEN with the epoch unknown does not matter. S holds the lanes of settled
senders and, of a settled node, the self lane; C holds every lane offered and, in ACQUIRE, the self lane; from each, in LISTEN
with the epoch unknown, the lanes without a known epoch are removed where any has one. S_p holds the lanes of settled senders
alone. C is considered in LISTEN and ACQUIRE, without REF, with S smaller than 2f + 1 and the quiet count at 16. A round by REF uses
S_p, any other S, else C, each only with 2f + 1 lanes and S_p only while REF is enabled; the kept range of S_p is then the
peer range, which is starved of fewer lanes and absent while REF is disabled. The summary publishes the sizes (R92). -/
def Obligations.StarvedRoundHolds : Prop :=
  ∀ (e : Elapsed) (s : State) (f : Flight), let u := s.elapse e; let g := u.config
    let settled (st : SenderState) : Prop := st = .track ∨ st = .holdover ∨ st = .anchored
    let relaxed : Prop := f.nodeState = .listen ∧ f.epochKnown = false
    let offers (z : SetLane) : Prop := ∃ l, f.slots[z.id].lane = some l ∧ z.value = l.value ∧ z.status = some l.status ∧
      f.slots[z.id].liveness = .active ∧ f.slots[z.id].suspect = false ∧ (relaxed ∨ l.status.epochKnown = f.epochKnown)
    let settledOffer (z : SetLane) : Prop := offers z ∧ ∀ st, z.status = some st → settled st.state
    let known (z : SetLane) : Prop := ∀ st, z.status = some st → st.epochKnown = true
    let set (admits : SetLane → Prop) (self : Prop) (z : SetLane) : Prop :=
      (admits z ∧ (relaxed → (∃ w, admits w ∧ known w) → known z)) ∨ (self ∧ z = { value := 0, id := u.ownId, status := none })
    let sizeS := (f.setS u.ownId).length; let sizeC := (f.setC u.ownId).length; let sizeSp := f.settledLanes.length
    let q := 2 * g.tolerance + 1; let used := f.used g u.ownId u.round.quiet
    let cold := f.coldConsidered g u.ownId u.round.quiet
    u.pins.resetAsserted = false → u.steer.nodeState.running = true → u.round.flight = some f →
    ∃ t, exec (.roundCompletion e) s = .next t ∧
      let m := t.round.published
      ((f.setS u.ownId).Nodup ∧ ∀ z, z ∈ f.setS u.ownId ↔
        set settledOffer (f.nodeState = .track ∨ f.nodeState = .holdover ∨ f.nodeState = .anchored) z) ∧
      ((f.setC u.ownId).Nodup ∧ ∀ z, z ∈ f.setC u.ownId ↔ set offers (f.nodeState = .acquire) z) ∧
      (f.settledLanes.Nodup ∧ ∀ z, z ∈ f.settledLanes ↔ settledOffer z) ∧
      (f.byRef = true ↔ f.nodeState = .anchored ∨ (f.nodeState = .acquire ∧ f.refSelected = true)) ∧
      (cold = true ↔ (f.nodeState = .listen ∨ f.nodeState = .acquire) ∧ sizeS < q ∧ u.round.quiet = 16 ∧ f.byRef = false) ∧
      used = (if f.byRef then (if g.refEnable = true ∧ q ≤ sizeSp then (.peer, f.settledLanes) else (.none, []))
        else if q ≤ sizeS then (.settled, f.setS u.ownId)
        else if cold = true ∧ q ≤ sizeC then (.cold, f.setC u.ownId) else (.none, [])) ∧
      (g.refEnable = false → f.peerRange g = .absent) ∧ (g.refEnable = true → sizeSp < q → f.peerRange g = .starved) ∧
      (g.refEnable = true → q ≤ sizeSp → ∃ z, f.peerRange g = .kept z ∧
        let kept := ((sortLanes f.settledLanes).drop g.tolerance).take (sizeSp - 2 * g.tolerance)
        (∃ l ∈ kept, l.value = z.low) ∧ (∃ l ∈ kept, l.value = z.high) ∧ ∀ l ∈ kept, z.low ≤ l.value ∧ l.value ≤ z.high) ∧
      (m.sizeS = sizeS ∧ m.sizeC = (if cold then some sizeC else none) ∧
        m.sizeSp = (if g.refEnable then some sizeSp else none) ∧ m.peerRange = f.peerRange g) ∧
      (f.overtaken = false → f.byRef = false → (f.setS u.ownId).length < 2 * u.config.tolerance + 1 →
        (f.coldConsidered u.config u.ownId u.round.quiet = true → (f.setC u.ownId).length < 2 * u.config.tolerance + 1) →
        t.flag 0 = true ∧
        m.source = .none ∧ m.setUsed = .none ∧ m.size = 0 ∧ m.correction = none ∧ m.aggregate = none ∧ m.trimmed = [] ∧
        m.kept = none ∧ m.roundEstimate = none ∧
        ∀ i : Fin 16, t.slots[i].liveness ≠ .vacant →
          t.slots[i].trims = u.slots[i].trims ∧ t.slots[i].suspect = u.slots[i].suspect) ∧
      ((∃ i : Fin 16, u.slots[i].suspect = false ∧ t.slots[i].suspect = true) → t.flag 14 = true) ∧
      ((∀ i : Fin 16, u.slots[i].suspect = false → t.slots[i].suspect = false) → t.flag 14 = u.flag 14) ∧
      ∀ i : Fin 16, let x := u.slots[i]; let y := t.slots[i]; let r := f.result g u.ownId u.round.quiet
        let misses := if x.round = ⟨none, none⟩ then min 32 (x.misses + 1) else 0
        let kept : Prop := f.overtaken = false ∧ ∃ l ∈ r.kept, l.status ≠ none ∧ l.id = i
        let trimmed : Prop := f.overtaken = false ∧ (∃ l ∈ r.trimmed, l.status ≠ none ∧ l.id = i) ∧ ¬kept
        let aged (w : List Sample) : List Sample := w.filterMap fun z => match z.age with
          | none => some (if z.closed then { z with age := some 0 } else z)
          | some a => if 32 ≤ a then none else some { z with age := some (a + 1) }
        let marked : Prop := ∃ (p : PortId) (c : Copy), x.round.get p = some c ∧
          ((c.estimate ≠ none ∧ c.congested = true) ∨ c.bounded = true)
        y.lastLane = x.lane ∧
        (x.liveness = .vacant → y.liveness = .vacant ∧ y.misses = x.misses ∧ y.verdict = x.verdict) ∧
        (x.liveness ≠ .vacant → misses = 32 →
          y = { x with
            liveness := .vacant, suspect := false, windows := ⟨[], []⟩, current := y.current, round := ⟨none, none⟩
            prev := ⟨none, none⟩, lane := none, lastLane := x.lane, misses := 0, trims := y.trims, agreements := 0
            verdict := { ahead := false, behind := false, level := false, summary := x.verdict.summary }
            counters := y.counters } ∧
          (¬trimmed → y.trims = 0)) ∧
        (x.liveness ≠ .vacant → misses ≠ 32 →
          y = { x with
            liveness := y.liveness, suspect := y.suspect, windows := x.windows.map aged, current := y.current
            lastLane := x.lane, misses := misses, trims := y.trims, agreements := y.agreements, verdict := y.verdict
            counters := y.counters } ∧
          (let l := if 3 ≤ misses ∧ (x.liveness = .heard ∨ x.liveness = .active) then .silent else x.liveness;
            y.liveness = if l = .active ∧ y.windows = ⟨[], []⟩ then .heard else l) ∧
          (x.suspect = false → (kept → y.trims = 0) ∧
            (trimmed → x.trims < 7 → y.trims = x.trims + 1) ∧
            (trimmed → 7 ≤ x.trims → y.suspect = true ∧ y.trims = 0 ∧ y.agreements = 0) ∧
            (¬kept → ¬trimmed → y.trims = x.trims) ∧
            (¬(trimmed ∧ 7 ≤ x.trims) → y.suspect = false ∧ y.agreements = x.agreements)) ∧
          (x.suspect = true →
            (∀ c l, m.correction = some c → x.lane = some l →
              ((g.band : Int) < |l.value - c| → y.suspect = true ∧ y.agreements = 0 ∧ y.trims = x.trims) ∧
              (|l.value - c| ≤ g.band → x.agreements < 7 →
                y.suspect = true ∧ y.agreements = x.agreements + 1 ∧ y.trims = x.trims) ∧
              (|l.value - c| ≤ g.band → 7 ≤ x.agreements → y.suspect = false ∧ y.agreements = 0 ∧ y.trims = 0)) ∧
            (m.correction = none ∨ x.lane = none →
              y.suspect = true ∧ y.agreements = x.agreements ∧ y.trims = x.trims)) ∧
          (∀ c l, m.correction = some c → x.lane = some l →
            (y.verdict.ahead = true ↔ (g.band : Int) < l.value - c) ∧ (y.verdict.behind = true ↔ l.value - c < -(g.band : Int)) ∧
            (y.verdict.level = true ↔ |l.value - c| ≤ g.band)) ∧
          (m.correction = none ∨ x.lane = none →
            y.verdict.ahead = false ∧ y.verdict.behind = false ∧ y.verdict.level = false) ∧
          (y.verdict.summary = true ↔ x.verdict.summary = true ∨ trimmed ∨ (x.lane = none ∧ marked)))

/-- The sorted order by value and then by id (R80). The aggregate (R82): the exact sum of the kept values over n − 2f, half to even; it lies between the smallest and the
largest kept value, and it is the correction where the set used is cold, or settled with no anchored target accepted. The
anchored target (R83): in a round steered by S, the mean of the anchored lanes of the best class, trimmed of ⌊(|A| − 1)/2⌋ at
each end. It is accepted within the split bound of the kept range, and then it is the correction and the source is ANCHORS;
refused it leaves ENSEMBLE and sets SPLIT, and without an anchored lane there is none (R84). And the round estimate by the table
of R90, none in an overtaken or a starved round. The completion publishes all of this in the summary (R92). -/
def Obligations.AggregateIsTrimmedMean : Prop :=
  ∀ (f : Flight) (cfg : ConfigRecord) (id : Fin 16) (quiet : Nat), let r := f.result cfg id quiet
    let lanes := (f.used cfg id quiet).2
    let kept := ((sortLanes lanes).drop cfg.tolerance).take (lanes.length - 2 * cfg.tolerance)
    let anchored := lanes.filter fun x => x.status.any fun st => decide (st.state = .anchored)
    let cls (x : SetLane) : Nat := (x.status.map fun st => st.anchorClass.toNat).getD 0
    let ends (l : List SetLane) (low high : Int) : Prop := (∃ x ∈ l, x.value = low) ∧ (∃ x ∈ l, x.value = high) ∧
      ∀ x ∈ l, low ≤ x.value ∧ x.value ≤ high
    let halved (low high : Int) (h : Nat) : Prop := high - low ≤ 8 * (h : Int) ∧ 8 * (h : Int) < high - low + 8
    (∀ l : List SetLane, (sortLanes l).Perm l ∧
      (sortLanes l).Pairwise fun x y => x.value < y.value ∨ (x.value = y.value ∧ x.id ≤ y.id)) ∧
    (r.setUsed ≠ .none →
      r.kept = kept ∧ kept.length = lanes.length - 2 * cfg.tolerance ∧ kept ≠ [] ∧
      ∃ a, r.aggregate = some a ∧ a = halfEven (kept.map (·.value)).sum (lanes.length - 2 * cfg.tolerance) ∧
        (∃ x ∈ kept, x.value ≤ a) ∧ (∃ x ∈ kept, a ≤ x.value) ∧
        (f.overtaken = false → f.byRef = false → r.setUsed = .cold ∨ (r.setUsed = .settled ∧ r.accepted = false) →
          r.correction = some a)) ∧
    (r.setUsed ≠ .settled ∨ anchored = [] → r.anchor = none ∧ r.accepted = false ∧ r.split = false) ∧
    (r.setUsed = .settled → ∀ best : Nat, (∃ x ∈ anchored, cls x = best) → (∀ x ∈ anchored, best ≤ cls x) →
      let a := anchored.filter fun x => decide (cls x = best); let fa := (a.length - 1) / 2
      let ka := ((sortLanes a).drop fa).take (a.length - 2 * fa)
      let target := halfEven (ka.map (·.value)).sum (a.length - 2 * fa)
      (∃ z, r.anchor = some z ∧ z.target = target ∧ z.subset.bestClass.toNat = best ∧ z.subset.size = a.length ∧
        z.subset.fa = fa ∧ ends ka z.subset.kept.low z.subset.kept.high) ∧ r.split = !r.accepted ∧
      (∀ low high, ends kept low high →
        (r.accepted = true ↔ low - cfg.splitBound ≤ target ∧ target ≤ high + cfg.splitBound)) ∧
      (r.accepted = true → r.source = .anchors ∧ (f.overtaken = false → r.correction = some target ∧
        ∀ low high h, ends ka low high → halved low high h → r.estimate = some (min 2147483647 (h + 2 ^ (best + 3)))))) ∧
    (r.setUsed = .settled → r.accepted = false → r.source = .ensemble) ∧ (r.setUsed = .cold → r.source = .cold) ∧
    (f.byRef = true → r.source = .ref ∧ (f.overtaken = false → r.estimate = some (2 ^ (cfg.anchorClass.toNat + 3)))) ∧
    (f.overtaken = false → r.source = .ensemble ∨ r.source = .cold →
      ∀ low high h, ends kept low high → halved low high h → r.estimate = some (min 2147483647 h)) ∧
    (f.overtaken = true ∨ (r.setUsed = .none ∧ f.byRef = false) → r.correction = none ∧ r.estimate = none) ∧
    ∀ (e : Elapsed) (s : State), let u := s.elapse e
      u.pins.resetAsserted = false → u.steer.nodeState.running = true → u.round.flight = some f → cfg = u.config →
      id = u.ownId → quiet = u.round.quiet → ∃ t, exec (.roundCompletion e) s = .next t ∧ let m := t.round.published
        m.source = r.source ∧ m.setUsed = r.setUsed ∧ m.size = lanes.length ∧ m.correction = r.correction ∧
        m.aggregate = (if f.byRef then none else r.aggregate) ∧ m.roundEstimate = r.estimate ∧
        m.anchored = r.anchor.map (·.subset) ∧ m.target = (r.anchor.map fun a => (a.target, if r.accepted then .accepted else .split)) ∧
        (f.overtaken = false → r.split = true → t.flag 3 = true)

/-- In a round whose source is ENSEMBLE or COLD, lanes of at most f nodes, whatever their values, cannot move
the correction outside the range in which all other lanes of the set lie (R76, R78, R80 to R82). -/
def Obligations.FaultyLanesCannotMoveCorrection : Prop :=
  ∀ (e : Elapsed) (s : State) (f : Flight) (faulty : SetLane → Bool) (low high : Int), let u := s.elapse e
    let lanes := (f.used u.config u.ownId u.round.quiet).2
    u.pins.resetAsserted = false → u.steer.nodeState.running = true → u.round.flight = some f → f.overtaken = false →
    (f.result u.config u.ownId u.round.quiet).source = .ensemble ∨ (f.result u.config u.ownId u.round.quiet).source = .cold →
    (lanes.filter faulty).length ≤ u.config.tolerance →
    (∀ x ∈ lanes, faulty x = false → low ≤ x.value ∧ x.value ≤ high) →
    ∃ t c, exec (.roundCompletion e) s = .next t ∧ t.round.published.correction = some c ∧ low ≤ c ∧ c ≤ high

/-- SLEW_END (R11, R116): the remainder passes into the reading at once and counts in the correction total while a last pulse
stamp is held; the record is emptied, and nothing else changes. Before its reading it only lets
time pass (the model's choice, log entry 3). -/
def Obligations.SlewEndSettles : Prop :=
  ∀ (e : Elapsed) (s : State) (w : Slew), let u := s.elapse e; let rest := w.amount - w.delivered
    u.pins.resetAsserted = false → u.steer.nodeState.running = true → u.clock.slew = some w →
    (u.clock.reading.reached w.finish = true → ∃ c, exec (.slewEnd e) s = .next { u with
        clock := { u.clock with reading := u.clock.reading.plus rest, slew := none }, ref := { u.ref with correction := c } } ∧
      (u.ref.lastPulse = none → c = u.ref.correction) ∧
      (u.ref.lastPulse ≠ none → -9223372036854775808 ≤ u.ref.correction + rest →
        u.ref.correction + rest ≤ 9223372036854775807 → c = u.ref.correction + rest)) ∧
    (u.clock.reading.reached w.finish = false → exec (.slewEnd e) s = .next u)

/-! ## The Reference Unit -/

/-- REF_PULSE with no anchor time pending (R116, R117, R118, R120, R125): the table of R117 in ABSENT and QUALIFYING, the two
judgements of R118 in VALID and DISTRUSTED; the stamp is kept, the correction total returns to 0, and the host-timescale flag
is cleared where the state leaves VALID. And the judgement of a completion (R121, R122): a fresh offset taken at the close,
against the peer range widened by the split bound; eight outside rounds while REF was selected make DISTRUSTED with SPLIT,
eight inside rounds make it VALID again, and a round without an offset or a range is not judged. -/
def Obligations.RefPulseMovesState : Prop :=
  ∀ (e : Elapsed) (s : State), let u := s.elapse e; let r := u.ref; let now := u.clock.reading
    let onTime := ∃ p, r.lastPulse = some p ∧ |now.diff p - r.correction - (r.missCount + 1) * 4000000000| ≤ 400000
    let q : Int := now.fraction
    let measured : RefUnit := { r with
      lastPulse := some now, correction := 0, lastOffset := some (if q ≤ 2000000000 then -q else 4000000000 - q), fresh := true }
    let lost : RefUnit := { r with
      state := .qualifying, qualCount := 0, lastPulse := some now, correction := 0, missCount := 0, lastOffset := none
      fresh := false, outside := 0, inside := 0 }
    (u.pins.resetAsserted = false → u.steer.nodeState.running = true → u.config.refEnable = true → r.pendingTime = none →
      ∃ t, exec (.refPulse e) s = .next t ∧
      t = { u with
        ref := t.ref, cond := t.cond
        steer := if r.state = .valid ∧ t.ref.state ≠ .valid then { u.steer with hostTimescale := false } else u.steer } ∧
      match r.state with
      | .absent => t.cond = u.cond ∧
        t.ref = { r with state := .qualifying, qualCount := 0, lastPulse := some now, correction := 0 }
      | .qualifying => t.cond = u.cond ∧
        (¬onTime → t.ref = { r with qualCount := 0, lastPulse := some now, correction := 0 }) ∧
        (onTime → r.qualCount < 3 →
          t.ref = { r with qualCount := r.qualCount + 1, lastPulse := some now, correction := 0 }) ∧
        (onTime → 3 ≤ r.qualCount → t.ref = { measured with state := .valid, qualCount := 0 })
      | .valid | .distrusted =>
        (onTime → t.cond = u.cond ∧ t.ref = { measured with missCount := 0 }) ∧
        (¬onTime → t.cond = u.cond.raise 10 ∧ t.ref = lost)) ∧
    ∀ f : Flight, u.pins.resetAsserted = false → u.steer.nodeState.running = true → u.round.flight = some f →
      ∃ t, exec (.roundCompletion e) s = .next t ∧
        let v := t.ref
        let inside (z : Range) (o : Int) : Prop := z.low - u.config.splitBound ≤ o ∧ o ≤ z.high + u.config.splitBound
        v.qualCount = r.qualCount ∧ v.lastPulse = r.lastPulse ∧ v.missCount = r.missCount ∧ v.fresh = r.fresh ∧
        t.steer.hostTimescale = (u.steer.hostTimescale && decide (r.state = .valid → v.state = .valid)) ∧
        ((∀ z o, f.peerRange u.config = .kept z → f.refOffset ≠ some o) →
          v.state = r.state ∧ v.outside = r.outside ∧ v.inside = r.inside) ∧
        ∀ z o, f.peerRange u.config = .kept z → f.refOffset = some o →
          (r.state = .absent ∨ r.state = .qualifying → v.state = r.state ∧ v.outside = r.outside ∧ v.inside = r.inside) ∧
          (r.state = .valid →
            (f.refSelected = false ∨ inside z o → v.state = .valid ∧ v.outside = 0) ∧
            (f.refSelected = true → ¬inside z o → r.outside < 7 → v.state = .valid ∧ v.outside = r.outside + 1) ∧
            (f.refSelected = true → ¬inside z o → 7 ≤ r.outside →
              v.state = .distrusted ∧ v.outside = 0 ∧ v.inside = 0 ∧ t.flag 3 = true)) ∧
          (r.state = .distrusted →
            (¬inside z o → v.state = .distrusted ∧ v.inside = 0) ∧
            (inside z o → r.inside < 7 → v.state = .distrusted ∧ v.inside = r.inside + 1) ∧
            (inside z o → 7 ≤ r.inside → v.state = .valid ∧ v.outside = 0 ∧ v.inside = 0))

/-- REF_PULSE with an anchor time pending (R116 to R118, R120, R124). The unit moves as without one (the tables of R117 and
R118). At a pulse that does not leave the state VALID the anchor time stays pending, and the host-timescale flag is cleared where
VALID is left (R125). At one that does it is taken off, and the four rows of R124 say what becomes of the epoch, the UTC values
and the clock. The STEP of the second row is all that a step is: held copies move (R56), histories are invalid (R37), a close in
flight is overtaken (R73), the step, exact also beyond 64 bits (the model's choice, log entry 15), counts in the correction total
(R116; beyond 64 bits a free value, log entry 14), instants
are named afresh (R7), a leap of the adopted values that it jumps over is carried out and otherwise the leap guard moves (R125,
R127; log entry 9, DEDUCED), a pulse end moves (R135), a train's high ends and its next rise is named afresh at the floor of its
place in the second, or left to the next top of second (R137; a gate phase stays, ARMED too: DESIGN CHOICE, log
entry 37), the frames end or are composed afresh and a symbol left in
progress by a mute ends (R152). -/
def Obligations.AnchorTimeApplied : Prop :=
  ∀ (e : Elapsed) (s : State) (a : AnchorTime), let u := s.elapse e; let r := u.ref; let now := u.clock.reading
    let onTime := ∃ p, r.lastPulse = some p ∧ |now.diff p - r.correction - (r.missCount + 1) * 4000000000| ≤ 400000
    let applies := onTime ∧ (r.state = .valid ∨ (r.state = .qualifying ∧ 3 ≤ r.qualCount))
    let q : Int := now.fraction
    let offset : Int := if q ≤ 2000000000 then -q else 4000000000 - q
    let own := (now.plus offset).seconds
    let jump : Int := ((a.seconds.toNat : Int) - own) * 4000000000
    let stepped : Prop := applies ∧ u.steer.epochKnown = false ∧ a.seconds.toNat ≠ own
    let kept : RefUnit := { r with lastPulse := some now, correction := 0 }
    let measured : RefUnit := { kept with lastOffset := some offset, fresh := true }
    u.pins.resetAsserted = false → u.steer.nodeState.running = true → u.config.refEnable = true → r.pendingTime = some a →
    ∃ t, exec (.refPulse e) s = .next t ∧
      (¬applies →
        t = { u with
          ref := t.ref, cond := t.cond
          steer := if r.state = .valid then { u.steer with hostTimescale := false } else u.steer } ∧
        match r.state with
        | .absent => t.cond = u.cond ∧ t.ref = { kept with state := .qualifying, qualCount := 0 }
        | .qualifying => t.cond = u.cond ∧ (¬onTime → t.ref = { kept with qualCount := 0 }) ∧
          (onTime → t.ref = { kept with qualCount := r.qualCount + 1 })
        | .valid | .distrusted => (onTime → t.cond = u.cond ∧ t.ref = { measured with missCount := 0 }) ∧
          (¬onTime → t.cond = u.cond.raise 10 ∧ t.ref = { kept with
            state := .qualifying, qualCount := 0, missCount := 0, outside := 0, inside := 0, lastOffset := none
            fresh := false })) ∧
      (applies →
        t.ref = { measured with
          state := .valid, qualCount := if r.state = .qualifying then 0 else r.qualCount
          missCount := if r.state = .valid then 0 else r.missCount, pendingTime := none, correction := t.ref.correction } ∧
        (¬stepped → t = { u with ref := t.ref, cond := t.cond, steer := t.steer } ∧ t.ref.correction = 0) ∧
        (u.steer.epochKnown = true → a.seconds.toNat = own → t.cond = u.cond ∧
          t.steer = { u.steer with utc := a.utc, hostTimescale := true }) ∧
        (u.steer.epochKnown = true → a.seconds.toNat ≠ own → t.cond = u.cond.raise 11 ∧ t.steer = u.steer) ∧
        (u.steer.epochKnown = false → a.seconds.toNat = own → t.cond = u.cond ∧
          t.steer = { u.steer with epochKnown := true, utc := a.utc, hostTimescale := true }) ∧
        (stepped → let z := now.plus jump
          t = { u with
            clock := { u.clock with
              reading := z, slew := none, stepCount := u.clock.stepCount + 1#8, named := u.namedFrom z }
            ports := t.ports, slots := t.slots, steer := t.steer, ref := t.ref, cond := u.cond.raise 2
            round := { u.round with flight := u.round.flight.map fun f => { f with overtaken := true } }
            outs := { u.outs with channels := t.outs.channels }
            code := { u.code with
              pendingFrame := if 2000000000 ≤ z.fraction
                then some (t.composeFrame ((z.seconds + 1) % 1099511627776) u.code.referenceStep) else none
              current := u.code.current.filter fun f => f.second = BitVec.ofNat 40 z.seconds } } ∧
          (jump ≤ 9223372036854775807 → -9223372036854775808 ≤ jump → t.ref.correction = jump) ∧
          t.steer = { u.steer with epochKnown := true, hostTimescale := true, utc := t.steer.utc, leapGuard := t.steer.leapGuard } ∧
          (if 0 < jump ∧ a.utc.leapJumped now jump = true
            then t.steer.utc = a.utc.leap ∧ t.steer.leapGuard = some (z.plus 8000000000)
            else t.steer.utc = a.utc ∧ t.steer.leapGuard = u.steer.leapGuard.map fun g => g.plus jump) ∧
          (∀ p, t.ports.get p = { u.ports.get p with
            history := (u.ports.get p).history.map fun h => { h with valid := false } }) ∧
          (∀ i : Fin 16, CopiesStepped u.config u.steer.nodeState jump z u.slots[i] t.slots[i] ∧
            t.slots[i] = { u.slots[i] with current := t.slots[i].current, counters := t.slots[i].counters }) ∧
          ∀ k : Fin 4, let c := u.outs.channels[k]; let d := t.outs.channels[k]
            let rate := trainRate u.config.outs[k].rate
            let runs : Prop := if u.paired k then (u.pairOf k).phase = .both else c.phase = .running
            (u.config.outs[k].mode ≠ .train → d = { c with
              pulseEnd := c.pulseEnd.map fun g => g.plus jump, tail := none }) ∧
            (u.config.outs[k].mode = .train → d = { c with high := false, edge := d.edge } ∧ (¬runs → d.edge = none) ∧
              (runs → (∀ n, n < rate → n * 4000000000 / rate ≤ z.fraction) → d.edge = none) ∧
              (runs → ∀ n, n < rate → z.fraction < n * 4000000000 / rate →
                (∀ j, j < n → j * 4000000000 / rate ≤ z.fraction) →
                d.edge = some { reading := z.secondStart.plus (n * 4000000000 / rate : Nat), rising := true, index := n }))))

/-- MISS_INSTANT (R119): due when the corrected elapsed time reaches (miss count + 1) s + 100 µs; the first miss of a VALID or
DISTRUSTED reference is counted, the second loses it with REF_LOST, and one in QUALIFYING returns the unit to ABSENT. The
host-timescale flag is cleared where the state leaves VALID (R125). A miss instant that is not due only lets time pass (the
model's choice, log entry 3). -/
def Obligations.MissInstantMoves : Prop :=
  ∀ (e : Elapsed) (s : State), let u := s.elapse e; let r := u.ref
    let due := r.state ≠ .absent ∧
      ∃ p, r.lastPulse = some p ∧ ((r.missCount : Int) + 1) * 4000000000 + 400000 ≤ u.clock.reading.diff p - r.correction
    u.pins.resetAsserted = false → u.steer.nodeState.running = true → u.config.refEnable = true →
    (¬due → exec (.missInstant e) s = .next u) ∧
    (due → r.state = .qualifying → exec (.missInstant e) s = .next { u with
      ref := { r with state := .absent, qualCount := 0, lastPulse := none } }) ∧
    (due → r.state = .valid ∨ r.state = .distrusted → r.missCount = 0 → exec (.missInstant e) s = .next { u with
      ref := { r with missCount := 1 } }) ∧
    (due → r.state = .valid ∨ r.state = .distrusted → 1 ≤ r.missCount → exec (.missInstant e) s = .next { u with
      ref := { r with
        state := .absent, qualCount := 0, missCount := 0, outside := 0, inside := 0, lastPulse := none, lastOffset := none
        fresh := false }
      steer := { u.steer with hostTimescale := u.steer.hostTimescale && decide (r.state ≠ .valid) }
      cond := u.cond.raise 10 })

/-- A named reading reached: ANCHOR_TIME_EXPIRY drops the pending anchor time (R123), PULSE_END lowers the line (R135) and
LEAP_GUARD_EXPIRY ends the guard (R125), and nothing else changes; before its reading each only lets time pass (the
model's choice, log entry 3). -/
def Obligations.NamedExpiriesEnd : Prop :=
  ∀ (e : Elapsed) (s : State), let u := s.elapse e; let now := u.clock.reading
    u.pins.resetAsserted = false →
    (∀ a, u.ref.pendingTime = some a → u.steer.nodeState.running = true → exec (.anchorTimeExpiry e) s = .next
      (if now.reached a.expiry then { u with ref := { u.ref with pendingTime := none } } else u)) ∧
    (∀ g, u.steer.leapGuard = some g → u.steer.nodeState.clocked = true → exec (.leapGuardExpiry e) s = .next
      (if now.reached g then { u with steer := { u.steer with leapGuard := none } } else u)) ∧
    (∀ (k : Fin 4) (g : Timestamp), u.outs.channels[k].pulseEnd = some g → u.steer.nodeState.running = true →
      exec (.pulseEnd e k) s = .next (if now.reached g then { u with outs := { u.outs with
        channels := u.outs.channels.set k { u.outs.channels[k] with high := false, pulseEnd := none } k.isLt } } else u))

/-! ## Tops of second, half seconds, outputs and the time code -/

/-- TOP_OF_SECOND (R127, R133, R143, R151): the next top is named; at the leap's top the UTC offset moves by one within
±1000, leap pending is cleared and the guard set 2 s on; a forward step jumps over a leap exactly where one of the tops between, the
reading it lands on included, is such a top (DEDUCED, log entries 5 and 9); in the running states the pending frame of this second becomes the
current one and the lamps are latched, and in FAULT nothing but the leap happens. -/
def Obligations.TopOfSecondMovesTimescale : Prop :=
  ∀ (e : Elapsed) (s : State) (top : Timestamp), let u := s.elapse e; let x := u.steer.utc
    let day := ((top.seconds : Int) - 1 - x.offset) % 86400
    let leaps := x.pending = true ∧ day = if x.deletion then 86398 else 0
    u.pins.resetAsserted = false → u.steer.nodeState.clocked = true → u.clock.named.top = some top →
    u.clock.reading.reached top = true →
    ∃ t, exec (.topOfSecond e) s = .next t ∧
      t = { u with
        clock := { u.clock with named := { u.clock.named with top := some (top.plus 4000000000) } }
        steer := t.steer, outs := t.outs, code := t.code } ∧
      (¬leaps → t.steer = u.steer) ∧
      (leaps → t.steer = { u.steer with
        utc := { x with
          pending := false
          offset := if x.deletion then (if x.offset ≤ -1000 then x.offset else x.offset - 1)
            else if 1000 ≤ x.offset then x.offset else x.offset + 1 }
        leapGuard := some (top.plus 8000000000) }) ∧
      (u.steer.nodeState = .fault → t.outs = u.outs ∧ t.code = u.code) ∧
      (u.steer.nodeState ≠ .fault → t.outs.lampLatch = u.config.envelopes u.steer.nodeState ∧
        t.outs.clockTiming = u.outs.clockTiming ∧ t.code = { u.code with
          pendingFrame := none
          current := u.code.pendingFrame.filter fun f => f.second = BitVec.ofNat 40 top.seconds }) ∧
      ∀ c : Int, 0 < c → (x.leapJumped u.clock.reading c = true ↔ ∃ n : Nat, 0 < n ∧
        ((u.clock.reading.seconds + n : Nat) : Int) * 4000000000 ≤ (u.clock.reading.qns.val : Int) + c ∧
        x.pending = true ∧ ((((u.clock.reading.seconds + n) % 1099511627776 : Nat) : Int) - 1 - x.offset) % 86400 =
          if x.deletion then 86398 else 0)

/-- The outputs at a top of second in a running state (R132, R133, R135, R136, R139, R140, R141, R151): an unpaired PULSE or
TRAIN output leaves ARMED for RUNNING and begins its pulse or train exactly while it is active, and a CODE output that is
active leaves ARMED for RUNNING; a pair moves by Table 7-6, its marker begins in LEAD and BOTH and at the one closing top, and
its train begins in BOTH, each but the closing marker only while the pair is active. A pulse end is named from the top (DEDUCED,
log entry 25); CLOSING is left at the first top whose reading is not that of the closing top, and a top that finds the marker
still high is no closing top (DEDUCED, log entry 17). And the outputs at a completion: gate phases by Table 7-5 and pair phases
by Table 7-6 (R133, R139 to R141), by the state and class it leaves; a mute lets a high in progress complete (R134, R153), a symbol only in the second
that its frame describes (R151); a step moves pulse ends and ends a train's high (R135, R137), and leaves no train running, since
it enters ACQUIRE. At a completion that mutes and steps, the mute acts first, so that no symbol is left in progress (DEDUCED, log
entry 28). -/
def Obligations.TopOfSecondDrivesOutputs : Prop :=
  ∀ (e : Elapsed) (s : State) (k : Fin 4), let u := s.elapse e; let o := u.config.outs[k]
    let c := u.outs.channels[k]; let p := u.pairOf k
    u.pins.resetAsserted = false → u.steer.nodeState.running = true →
    (∀ top : Timestamp, u.clock.named.top = some top → u.clock.reading.reached top = true →
      ∃ t, exec (.topOfSecond e) s = .next t ∧
        let d := t.outs.channels[k]; let p' := t.pairOf k
        let pulse : Channel :=
          if c.high then c else { c with high := true, pulseEnd := some (top.plus (o.width * 4000000 : Nat)) }
        let train : Channel := { c with
          high := true, edge := some { reading := top.plus (2000000000 / trainRate o.rate : Nat), rising := false, index := 0 } }
        let active (j : Fin 4) : Prop := u.steer.nodeState.settled = true ∧ u.steer.accuracyClass ≤ u.config.outs[j].floor
        let both : Prop := if k.val < 2 then active 0 ∧ active 1 else active 2 ∧ active 3
        let markerHigh : Prop := if k.val < 2 then u.outs.channels[1].high = true else u.outs.channels[3].high = true
        let closes : Prop := p.phase = .closing ∧ p.closingTop = none
        (u.paired k = false → o.mode = .pulse ∨ o.mode = .train →
          (c.phase = .muted → d = c) ∧
          (c.phase ≠ .muted → active k →
            d = if o.mode = .pulse then { pulse with phase := .running } else { train with phase := .running }) ∧
          (c.phase ≠ .muted → ¬active k → d = { c with phase := .running })) ∧
        (u.paired k = false → o.mode = .code →
          (c.phase = .muted ∨ ¬active k → d = c) ∧
          (c.phase ≠ .muted → active k → d = { c with phase := .running, tail := none })) ∧
        (u.paired k = true →
          (k = 0 ∨ k = 2 → (p'.phase = .both ∧ both → d = train) ∧ (¬(p'.phase = .both ∧ both) → d = c)) ∧
          (k = 1 ∨ k = 3 → (closes ∨ (both ∧ (p'.phase = .lead ∨ p'.phase = .both)) → d = pulse) ∧
            (¬(closes ∨ (both ∧ (p'.phase = .lead ∨ p'.phase = .both))) → d = c)) ∧
          (p.phase = .idle ∨ p.phase = .both → p' = p) ∧ (p.phase = .armed → p'.phase = .lead) ∧
          (p.phase = .lead → p'.phase = .both) ∧ (closes → ¬markerHigh → p' = { p with closingTop := some top }) ∧
          (closes → markerHigh → p' = p) ∧ (p.phase = .closing → p.closingTop = some top → p' = p) ∧
          (∀ q, p.phase = .closing → p.closingTop = some q → q ≠ top →
            p' = { phase := if p.resume then .lead else .idle, resume := false, closingTop := none }))) ∧
    ∀ f : Flight, u.round.flight = some f →
      ∃ t, exec (.roundCompletion e) s = .next t ∧
        let d := t.outs.channels[k]; let p' := t.pairOf k; let m := t.round.published
        let active (j : Fin 4) : Prop := t.steer.nodeState.settled = true ∧ t.steer.accuracyClass ≤ u.config.outs[j].floor
        let both : Prop := if k.val < 2 then active 0 ∧ active 1 else active 2 ∧ active 3
        let gated : Prop := u.paired k = false ∧ (o.mode = .pulse ∨ o.mode = .train ∨ o.mode = .code)
        let mutes : Prop := (gated ∧ ¬active k ∧ c.phase = .running) ∨ (u.paired k = true ∧ (k = 0 ∨ k = 2) ∧ ¬both)
        t.outs.lampLatch = u.outs.lampLatch ∧ t.outs.clockTiming = u.outs.clockTiming ∧ d.dark = c.dark ∧
        (gated → (active k → d.phase = if c.phase = .muted then .armed else c.phase) ∧ (¬active k → d.phase = .muted)) ∧
        (¬gated → d.phase = c.phase) ∧
        (u.paired k = false → p' = p) ∧
        (u.paired k = true → both → p' = (match p.phase with
          | .idle => { p with phase := .armed }
          | .armed | .lead | .both => p
          | .closing => { p with resume := true })) ∧
        (u.paired k = true → ¬both → p' = (match p.phase with
          | .idle => p
          | .armed => { p with phase := .idle }
          | .lead | .both => { phase := .closing, resume := false, closingTop := none }
          | .closing => { p with resume := false })) ∧
        ((∀ a, m.action ≠ .step a) → d.high = c.high ∧ d.pulseEnd = c.pulseEnd ∧
          (mutes → o.mode = .train → d.edge = if c.high then c.edge else none) ∧ (¬mutes → d.edge = c.edge) ∧
          (gated → mutes → o.mode = .code → ∀ fr, u.code.current = some fr →
            let now := u.clock.reading; let slot := now.fraction / 80000000
            let width : Nat := match fr.symbols.getD slot .zero with
              | .zero => 20000000
              | .one => 40000000
              | .mark => 60000000
            d.tail = if fr.second = BitVec.ofNat 40 now.seconds ∧ now.fraction % 80000000 < width then some (now.secondStart.plus (slot * 80000000 + width : Nat))
              else none) ∧
          (gated → mutes → o.mode = .code → u.code.current = none → d.tail = none) ∧
          (¬(mutes ∧ o.mode = .code) → d.tail = c.tail)) ∧
        ∀ a, m.action = .step a →
          (o.mode ≠ .train → d.high = c.high ∧ d.pulseEnd = c.pulseEnd.map (fun g => g.plus a) ∧ d.tail = none) ∧
          (o.mode = .train → d.high = false ∧ d.pulseEnd = c.pulseEnd ∧ d.edge = none)

/-- HALF_SECOND (R148, R149, R150): the frame of the next second is pending, composed at the present step count and of 50
symbols with MARKs at positions 0, 34 and 49. Positions 1 to 33 are the second, minute, hour, day of the year and year of that
second by R128, under the UTC values with the leap of its top already made (R127, R149), an inserted second being 23:59:60 of the
day before. The class, the state code, those values' leap flags and the epoch flag follow; the stepped symbol compares the step
count with that of the frame composed before, and the check count is the ONEs of positions 1 to 45 modulo 8. -/
def Obligations.HalfSecondComposesFrame : Prop :=
  ∀ (e : Elapsed) (s : State) (half : Timestamp), let u := s.elapse e; let x := u.steer.utc
    let second : Int := ((half.seconds + 1) % 1099511627776 : Nat)
    let leaps : Prop := x.pending = true ∧ (second - 1 - x.offset) % 86400 = if x.deletion then 86398 else 0
    u.pins.resetAsserted = false → u.steer.nodeState.running = true → u.clock.named.half = some half →
    u.clock.reading.reached half = true →
    ∃ t f, exec (.halfSecond e) s = .next t ∧
      let holds (place width value : Nat) : Prop :=
        ∀ i : Nat, i < width → f.symbols[place + i]? = some (if value.testBit i then .one else .zero)
      t = { u with
        clock := { u.clock with named := { u.clock.named with half := some (half.plus 4000000000) } }, code := t.code } ∧
      t.code = { u.code with pendingFrame := some f, referenceStep := t.code.referenceStep } ∧
      (∀ g, u.code.pendingFrame = some g → t.code.referenceStep = g.step) ∧
      (∀ g, u.code.pendingFrame = none → u.code.current = some g → t.code.referenceStep = g.step) ∧
      (u.code.pendingFrame = none → u.code.current = none → t.code.referenceStep = u.code.referenceStep) ∧
      f.second = BitVec.ofNat 40 (half.seconds + 1) ∧ f.step = u.clock.stepCount ∧ f.symbols.length = 50 ∧
      (∀ i : Nat, i < 50 → (f.symbols[i]? = some .mark ↔ i = 0 ∨ i = 34 ∨ i = 49)) ∧
      (∃ v : UtcValues, (¬leaps → v = x) ∧
        (leaps → v = { x with
          pending := false
          offset := if x.deletion then (if x.offset ≤ -1000 then x.offset else x.offset - 1)
            else if 1000 ≤ x.offset then x.offset else x.offset + 1 }) ∧
        (∃ sec min hour day year : Nat,
          let inserted : Prop := v.pending = true ∧ v.deletion = false ∧ (second - v.offset) % 86400 = 0
          let count (utc : Int) : Prop := utc % 3155760000 =
            (((365 * year + (year + 3) / 4 + day - 1) * 24 + hour) * 60 + min) * 60 + (if sec = 60 then 59 else sec : Nat)
          holds 1 6 sec ∧ holds 7 6 min ∧ holds 13 5 hour ∧ holds 18 9 day ∧ holds 27 7 year ∧
          min < 60 ∧ hour < 24 ∧ 1 ≤ day ∧ day ≤ (if year % 4 = 0 then 366 else 365) ∧ year < 100 ∧
          (inserted → sec = 60 ∧ min = 59 ∧ hour = 23 ∧ count (second - 1 - v.offset)) ∧
          (¬inserted → sec < 60 ∧ count (second - v.offset))) ∧
        holds 42 1 (if v.pending then 1 else 0) ∧ holds 43 1 (if v.deletion then 1 else 0)) ∧
      holds 35 4 u.steer.accuracyClass ∧
      holds 39 3 (match u.steer.nodeState with
        | .acquire => 1
        | .track => 2
        | .holdover => 3
        | .anchored => 4
        | _ => 0) ∧
      f.symbols[44]? = some (if u.steer.epochKnown then .one else .zero) ∧
      f.symbols[45]? = some (if u.clock.stepCount ≠ t.code.referenceStep then .one else .zero) ∧
      holds 46 3 (((f.symbols.take 46).count .one) % 8)

/-- TRAIN_EDGE (R136, R134): the fall of pulse n names the rise of pulse n + 1 at the floor of its place in the second, while
pulses are left and the train goes on; the rise of pulse n names its fall; a train that no longer goes on falls and does not
rise. -/
def Obligations.TrainEdgeTaken : Prop :=
  ∀ (e : Elapsed) (k : Fin 4) (s : State) (x : TrainEdge), let u := s.elapse e; let c := u.outs.channels[k]
    let rate := trainRate u.config.outs[k].rate; let top := x.reading.secondStart
    let goes := (if u.paired k then (u.pairOf k).phase = .both else c.phase = .running) ∧ u.active k = true
    u.pins.resetAsserted = false → u.steer.nodeState.running = true → c.edge = some x → u.clock.reading.reached x.reading = true →
    ∃ d, exec (.trainEdge e k) s = .next { u with outs := { u.outs with channels := u.outs.channels.set k d k.isLt } } ∧
      (x.rising = false → d = { c with high := false, edge := d.edge } ∧
        (goes → x.index + 1 < rate → d.edge = some
          { reading := top.plus ((x.index + 1) * 4000000000 / rate : Nat), rising := true, index := x.index + 1 }) ∧
        (¬(goes ∧ x.index + 1 < rate) → d.edge = none)) ∧
      (x.rising = true →
        (goes → d = { c with
          high := true
          edge := some { reading := top.plus ((2 * x.index + 1) * 2000000000 / rate : Nat), rising := false, index := x.index } }) ∧
        (¬goes → d = { c with edge := none }))

/-! ## The Capture Unit -/

/-- RAW_CHANGE (R155, R156), no candidate past the filter time: the pin moves; before START that is all; a change away from the
filtered level takes a snapshot unless a candidate is held, and a return ends the candidate. With a filter time of 0 the change
is a filtered edge at once, with the snapshot of this instant: a qualifying edge disarms its group (R158), and a capture is
stored, or discarded at a full FIFO (R157, R160). -/
def Obligations.RawChangeFilters : Prop :=
  ∀ (e : Elapsed) (i : Fin 8) (level : Bool) (s : State), let u := s.elapse e; let x := u.capture.inputs[i]
    let v := { u with pins := { u.pins with event := u.pins.event.set i level i.isLt } }
    (u.steer.nodeState.clocked = false → exec (.rawChange e i level) s = .next v) ∧
    (u.pins.resetAsserted = false → u.steer.nodeState.clocked = true → 0 < u.config.glitch →
      (∀ c, x.candidate = some c → c.held < 100 * u.config.glitch) → ∀ l, x.level = some l →
      ∃ y, exec (.rawChange e i level) s = .next { v with
          capture := { u.capture with inputs := u.capture.inputs.set i y i.isLt } } ∧
        y.level = x.level ∧ (level = l → y.candidate = none) ∧
        (level ≠ l → x.candidate ≠ none → y.candidate = x.candidate) ∧
        (level ≠ l → x.candidate = none → y.candidate = some
          { held := 0, snapshot := { stamp := u.clock.reading, step := u.clock.stepCount, nodeState := u.steer.nodeState
                                     accuracyClass := u.steer.accuracyClass } })) ∧
    (u.pins.resetAsserted = false → u.steer.nodeState.clocked = true → u.config.glitch = 0 → x.candidate = none →
      ∀ l, x.level = some l →
      (level = l → exec (.rawChange e i level) s = .next v) ∧
      (level ≠ l → let set := u.config.inputs[i]; let a := u.capture
        let qualifies := (set.edge = .rise ∧ level = true) ∨ (set.edge = .fall ∧ level = false) ∨ set.edge = .both
        let captured := qualifies ∧ (set.group = none ∨ (set.group = some .g0 ∧ a.arm0 = some .armed) ∨
          (set.group = some .g1 ∧ a.arm1 = some .armed))
        ∃ t, exec (.rawChange e i level) s = .next t ∧ t = { v with capture := t.capture, cond := t.cond } ∧
          let b := t.capture
          b.inputs = a.inputs.set i { level := some level, candidate := none } i.isLt ∧
          (qualifies → set.group = some .g0 → b.arm0 = some .disarmed) ∧
          (qualifies → set.group = some .g1 → b.arm1 = some .disarmed) ∧
          (¬captured → b.fifo = a.fifo ∧ b.overflow = a.overflow ∧ b.lossPending = a.lossPending ∧ t.cond = u.cond) ∧
          (captured → a.fifo.length < 32 → b.lossPending = false ∧ b.overflow = a.overflow ∧ t.cond = u.cond ∧
            b.fifo = a.fifo ++ [{
              input := i, edge := if level then .rise else .fall, loss := a.lossPending
              snapshot := { stamp := u.clock.reading, step := u.clock.stepCount, nodeState := u.steer.nodeState
                            accuracyClass := u.steer.accuracyClass } }]) ∧
          (captured → 32 ≤ a.fifo.length → b.lossPending = true ∧ b.overflow = min 255 (a.overflow + 1) ∧ b.fifo = a.fifo ∧
            t.cond = u.cond.raise 12)))

/-- FILTERED_EDGE once the candidate has held for the filter time (R156 to R160): the filtered level changes; the edge
qualifies by its setting; a qualifying edge of an ungrouped input, or of one whose group is ARMED, is a capture; a qualifying
edge disarms its group, and a group whose members all stand inactive is armed; a capture is stored, or discarded at a full FIFO
with CAPTURE_LOSS; an edge that does not qualify changes levels and arm states alone. -/
def Obligations.FilteredEdgeCaptures : Prop :=
  ∀ (e : Elapsed) (i : Fin 8) (s : State) (x : Candidate) (l : Bool), let u := s.elapse e; let a := u.capture
    let set := u.config.inputs[i]
    let qualifies := (set.edge = .rise ∧ l = false) ∨ (set.edge = .fall ∧ l = true) ∨ set.edge = .both
    let captured := qualifies ∧ (set.group = none ∨ (set.group = some .g0 ∧ a.arm0 = some .armed) ∨
      (set.group = some .g1 ∧ a.arm1 = some .armed))
    u.pins.resetAsserted = false → u.steer.nodeState.clocked = true → a.inputs[i].candidate = some x →
    a.inputs[i].level = some l → 100 * u.config.glitch ≤ x.held →
    ∃ t, exec (.filteredEdge e i) s = .next t ∧ t = { u with capture := t.capture, cond := t.cond } ∧
      let b := t.capture
      let inactive (g : GroupId) := ∀ j : Fin 8, u.config.inputs[j].group = some g →
        (u.config.inputs[j].edge = .rise → b.inputs[j].level ≠ some true) ∧
        (u.config.inputs[j].edge = .fall → b.inputs[j].level = some true)
      b.inputs = a.inputs.set i { level := some (!l), candidate := none } i.isLt ∧
      b.lastEmpty = a.lastEmpty ∧ b.underrun = a.underrun ∧
      (qualifies → set.group = some .g0 → b.arm0 = some .disarmed) ∧
      (qualifies → set.group = some .g1 → b.arm1 = some .disarmed) ∧
      (¬(qualifies ∧ set.group = some .g0) → (inactive .g0 → b.arm0 = some .armed) ∧ (¬inactive .g0 → b.arm0 = a.arm0)) ∧
      (¬(qualifies ∧ set.group = some .g1) → (inactive .g1 → b.arm1 = some .armed) ∧ (¬inactive .g1 → b.arm1 = a.arm1)) ∧
      (¬captured → b.fifo = a.fifo ∧ b.overflow = a.overflow ∧ b.lossPending = a.lossPending ∧ t.cond = u.cond) ∧
      (captured → a.fifo.length < 32 → b.lossPending = false ∧ b.overflow = a.overflow ∧ t.cond = u.cond ∧
        b.fifo = a.fifo ++ [{ input := i, edge := if l then .fall else .rise, snapshot := x.snapshot, loss := a.lossPending }]) ∧
      (captured → 32 ≤ a.fifo.length → b.lossPending = true ∧ b.overflow = min 255 (a.overflow + 1) ∧ b.fifo = a.fifo ∧
        t.cond = u.cond.raise 12)

/-! ## The Command Port -/

/-- READ_TIME, READ_STATUS, READ_ROUND, READ_PEER and RESTART are answered in every node state (R16, R67, R93, R170, R171), with
the data of R16, of R171, of Table 4-6 with IN_PROGRESS (R92 to R94) and of Tables 3-1 and 3-2 as published with the round and
the close in flight (R67), field by field in the order of the rule, in the form of R168: numbers big-endian in two's complement,
named values by their position, optional fields after a presence byte, collections after their length (where a width or a form
is worked out: DEDUCED, log entry 10). A READ_PEER of an id of 16 or more is refused with REFUSE_ARG; READ_STATUS clears
UNDERRUN after reporting it, RESTART arms the command reset, and nothing else changes. -/
def Obligations.ReadsAnswer : Prop :=
  (∀ (n : Nat) (z : Int), (beBytes n z).length = n ∧
    ∀ k, k < n → (beBytes n z)[k]? = some (BitVec.ofInt 8 (z / 256 ^ (n - 1 - k)))) ∧
  ∀ (e : Elapsed) (s : State), let u := s.elapse e
    let reply (sent : Nat) (code : Byte) (data : List Byte) : CommandPort :=
      { u.port with dataOut := List.replicate sent 0x00#8 ++ code :: data }
    let yes (b : Bool) : List Byte := [if b then 0x01#8 else 0x00#8]
    let name {α : Type} [DecidableEq α] (l : List α) (x : α) : List Byte := [BitVec.ofNat 8 (l.idxOf x)]
    let opt {α : Type} (width : Nat) (o : Option α) (f : α → List Byte) : List Byte := match o with
      | none => 0x00#8 :: List.replicate width 0x00#8
      | some x => 0x01#8 :: f x
    let list {α : Type} (l : List α) (f : α → List Byte) : List Byte := BitVec.ofNat 8 l.length :: l.flatMap f
    let stamp (t : Timestamp) := beBytes 5 t.seconds ++ beBytes 4 (t.fraction / 4 : Nat) ++ beBytes 1 (t.fraction % 4 : Nat)
    let states := [NodeState.warmup, .config, .listen, .acquire, .track, .holdover, .anchored, .fault]
    let time := stamp u.clock.reading ++ name states u.steer.nodeState ++ beBytes 1 u.steer.accuracyClass ++
      yes u.steer.epochKnown ++ beBytes 2 u.steer.utc.offset ++ yes u.steer.utc.pending ++ yes u.steer.utc.deletion ++
      [u.clock.stepCount]
    let link (p : LinkPort) : List Byte :=
      [if p.up then 0x00#8 else 0x01#8] ++ p.counters.toList.flatMap fun n : Nat => beBytes 2 n
    let status := name states u.steer.nodeState ++ name [ResetCause.powerOn, .pin, .restart] u.monitor.cause ++
      [u.port.strapId.setWidth 8] ++ name [StrapValidity.notSampled, .valid, .invalid] u.port.strapValid ++
      yes u.port.record.isSome ++ yes u.port.locked ++
      name [RefState.absent, .qualifying, .valid, .distrusted] u.ref.state ++ yes u.ref.pendingTime.isSome ++
      beBytes 2 u.cond.flags.toNat ++ yes u.cond.fault ++ beBytes 1 u.capture.fifo.length ++ beBytes 1 u.capture.overflow ++
      yes u.capture.lossPending ++ yes u.capture.lastEmpty ++ yes u.capture.underrun ++ link u.ports.a ++ link u.ports.b
    let ids (l : List (Fin 16)) := list l fun i => [BitVec.ofNat 8 i.val]
    let range (z : Range) := beBytes 8 z.low ++ beBytes 8 z.high
    let m := u.round.published
    let live (st : NodeState) := name states (if m.round = none then u.steer.nodeState else st)
    let round := opt 4 m.round (fun r => beBytes 4 r.toNat) ++ live m.stateAtClose ++ live m.stateAfter ++
      name [Source.ensemble, .anchors, .cold, .ref, .none] m.source ++ yes m.overtaken ++ beBytes 1 m.quiet ++
      beBytes 1 m.sizeS ++ opt 1 m.sizeC (fun n => beBytes 1 n) ++ opt 1 m.sizeSp (fun n => beBytes 1 n) ++
      name [SetUsed.settled, .cold, .peer, .none] m.setUsed ++ beBytes 1 m.size ++ ids m.trimmed ++ opt 16 m.kept range ++
      opt 8 m.aggregate (beBytes 8) ++
      (opt 20 m.anchored (fun a => beBytes 1 a.bestClass.toNat ++ beBytes 1 a.size ++ beBytes 1 a.fa ++ ids a.trimmed ++
        range a.kept) ++
      opt 8 m.target (fun x => beBytes 8 x.1) ++ opt 1 m.target (fun x => name [TargetOutcome.accepted, .split] x.2) ++
      (match m.peerRange with
        | .absent => List.replicate 18 0x00#8
        | .starved => 0x01#8 :: 0x01#8 :: List.replicate 16 0x00#8
        | .kept z => 0x01#8 :: 0x00#8 :: range z) ++
      opt 4 m.refOffset (beBytes 4) ++ opt 8 m.correction (beBytes 8) ++
      opt 9 m.offer (fun o => beBytes 8 o.1 ++ beBytes 1 o.2) ++
      (match m.action with
        | .slew a => 0x00#8 :: opt 3 (some a) (beBytes 3) ++ opt 8 Option.none (beBytes 8)
        | .step c => 0x01#8 :: opt 3 Option.none (beBytes 3) ++ opt 8 (some c) (beBytes 8)
        | .hold => 0x02#8 :: opt 3 Option.none (beBytes 3) ++ opt 8 Option.none (beBytes 8)) ++
      opt 5 m.rateStep (beBytes 5) ++ beBytes 4 m.rateAfter ++ opt 4 m.roundEstimate (fun n => beBytes 4 n) ++
      beBytes 4 m.estimate ++ beBytes 1 m.accuracyClass ++ [m.stepCount]) ++ yes u.round.flight.isSome
    let sender (st : PeerStatus) := name [SenderState.listen, .acquire, .track, .holdover, .anchored] st.state ++
      yes st.anchored ++ beBytes 1 st.anchorClass.toNat ++ beBytes 1 st.accuracyClass.toNat ++ yes st.epochKnown
    let utc (st : PeerStatus) := beBytes 2 st.utcOffset.toNat ++ yes st.leapPending ++ yes st.leapDeletion
    let window (l : List Sample) := list l fun x =>
      beBytes 4 x.round.toNat ++ beBytes 3 x.value ++ opt 1 x.age (fun n => beBytes 1 n)
    let copy (o : Option Copy) := opt 61 o fun c =>
      beBytes 4 c.attributed.toNat ++ name [Attribution.named, .nextClose] c.kind ++ beBytes 4 c.roundField.toNat ++
      stamp c.ingress ++ [c.ingressStep] ++ beBytes 5 c.tx.seconds.toNat ++ beBytes 4 c.tx.nanos.toNat ++
      beBytes 1 c.tx.quarter.toNat ++ sender c.status ++ yes c.stepped ++ utc c.status ++
      opt 8 c.ownEcho (fun x => beBytes 1 x.peer.toNat ++ beBytes 1 x.round16.toNat ++ beBytes 4 x.nanos.toNat ++
        beBytes 1 x.quarter.toNat ++ [x.seconds]) ++
      name [DelayOutcome.added, .clamped, .noEcho, .stepped, .missing, .invalidated, .overMax] c.outcome ++
      yes c.checked ++ yes c.congested ++ opt 8 c.estimate (beBytes 8)
    let prev (o : Option PrevStamp) := opt 15 o fun x => stamp x.stamp ++ beBytes 4 x.round.toNat ++ [x.step]
    let lane (o : Option Lane) := opt 18 o fun l =>
      beBytes 8 l.value ++ name [PortId.a, .b] l.port ++ sender l.status ++ utc l.status
    let delay (l : List Sample) := opt 3 (filteredDelay l) (fun n => beBytes 3 n)
    let peer (i : Fin 16) := let x := u.published.slots[i]
      name [Liveness.vacant, .heard, .active, .silent] x.liveness ++ yes x.suspect ++ window x.windows.a ++
      window x.windows.b ++ delay x.windows.a ++ delay x.windows.b ++ copy x.round.a ++ copy x.round.b ++ prev x.prev.a ++
      prev x.prev.b ++ lane x.lane ++ lane x.lastLane ++ yes x.verdict.ahead ++ yes x.verdict.behind ++ yes x.verdict.level ++
      yes x.verdict.summary ++ beBytes 1 x.misses ++ beBytes 1 x.trims ++ beBytes 1 x.agreements ++
      (x.counters.toList.flatMap fun n : Nat => beBytes 2 n) ++ opt 4 u.published.round (fun r => beBytes 4 r.toNat) ++
      yes u.round.flight.isSome
    u.pins.resetAsserted = false →
    exec (.readTime e) s = .next { u with port := reply 1 0x01#8 time } ∧
    exec (.readStatus e) s = .next { u with
      port := reply 1 0x01#8 status, capture := { u.capture with underrun := false } } ∧
    exec (.readRound e) s = .next { u with port := reply 1 0x01#8 round } ∧
    (∀ id : Byte, exec (.readPeer e id) s = .next { u with
      port := if h : id.toNat < 16 then reply 2 0x01#8 (peer ⟨id.toNat, h⟩) else reply 2 0x03#8 [] }) ∧
    exec (.restart e) s = .next { u with port := { reply 1 0x01#8 [] with restartArmed := true } }

/-- READ_CAPTURE (R162): the oldest record leaves the FIFO, with the number left after it, and LAST_EMPTY is cleared; an empty
FIFO answers EMPTY and sets LAST_EMPTY, UNDERRUN and the UNDERRUN condition. The record is sent by Table 9-2: input, edge,
timestamp, class, the state by its place in the table's list (DEDUCED, log entry 10), step count, LOSS. -/
def Obligations.ReadCaptureAnswers : Prop :=
  ∀ (e : Elapsed) (s : State), let u := s.elapse e
    u.pins.resetAsserted = false →
    (∀ r rest, u.capture.fifo = r :: rest → ∃ state : Byte, let x := r.snapshot; let now := x.stamp
      let data := [BitVec.ofNat 8 r.input.val, if r.edge = .rise then 0#8 else 1#8] ++ beBytes 5 now.seconds ++
        beBytes 4 (now.fraction / 4 : Nat) ++ beBytes 1 (now.fraction % 4 : Nat) ++ beBytes 1 x.accuracyClass ++
        [state, x.step, if r.loss then 1#8 else 0#8]
      (∀ k : Nat, [NodeState.listen, .acquire, .track, .holdover, .anchored, .fault][k]? = some x.nodeState →
        state = BitVec.ofNat 8 k) ∧
      exec (.readCapture e) s = .next { u with
        capture := { u.capture with fifo := rest, lastEmpty := false }
        port := { u.port with dataOut := 0x00#8 :: 0x01#8 :: (data ++ [BitVec.ofNat 8 rest.length]) } }) ∧
    (u.capture.fifo = [] → exec (.readCapture e) s = .next { u with
      capture := { u.capture with lastEmpty := true, underrun := true }
      cond := u.cond.raise 13
      port := { u.port with dataOut := [0x00#8, 0x04#8] } })

/-- LOAD_CONFIG of 86 bytes (R173): REFUSE_STATE outside CONFIG; in CONFIG REFUSE_ARG with the lowest-numbered offending byte;
otherwise the record is held and the answer is the number of fields clamped. A refused record leaves the one held before. An
output that becomes a lamp is dark until the next monitor top (R144). -/
def Obligations.LoadConfigJudges : Prop :=
  ∀ (e : Elapsed) (l : List Byte) (s : State), let u := s.elapse e; let zeros := List.replicate 87 0x00#8
    u.pins.resetAsserted = false → l.length = 86 →
    (u.steer.nodeState ≠ .config →
      exec (.loadConfig e l) s = .next { u with port := { u.port with dataOut := zeros ++ [0x02#8] } }) ∧
    (u.steer.nodeState = .config → ∀ i, i < 86 → offends l i = true → (∀ j, j < i → offends l j = false) →
      exec (.loadConfig e l) s = .next { u with port := { u.port with dataOut := zeros ++ [0x03#8, BitVec.ofNat 8 i] } }) ∧
    (u.steer.nodeState = .config → (∀ i, i < 86 → offends l i = false) → ∃ outs,
      exec (.loadConfig e l) s = .next { u with
        outs := outs
        port := { u.port with record := some (ConfigRecord.ofBytes l), dataOut := zeros ++ [0x01#8, BitVec.ofNat 8 (clampCount l)] } } ∧
      clampCount l ≤ 14 ∧ outs = { u.outs with channels := outs.channels } ∧
      ∀ k : Fin 4, let c := u.outs.channels[k]
        outs.channels[k] = if (ConfigRecord.ofBytes l).outs[k].mode = .lamp ∧ u.config.outs[k].mode ≠ .lamp
          then { c with dark := true } else c)

/-- What a record of 86 bytes holds (R172, Table 10-4): each field from its bytes, those with a range clamped into it, the step
threshold against the clamped slew limit; the clamp count is the number of the fourteen counted fields outside their range (R173).
The bytes that hold an offending field (R173): byte 11 where C exceeds T_r/16; an output's first byte with a mode code
of 5 to 7, or with the pairing flag where the train is not in TRAIN mode or the marker not in PULSE mode; an event input's byte
with a group code of 3, or in a group with edge BOTH. And every accepted record keeps the ranges of Table 10-4 and the rules
between its fields (R172, R173). -/
def Obligations.AcceptedRecordIsInRange : Prop :=
  ∀ l : List Byte, l.length = 86 → let r := ConfigRecord.ofBytes l
    let b (i : Nat) : Nat := (l.getD i 0#8).toNat
    let b2 (i : Nat) : Nat := 256 * b i + b (i + 1)
    let b4 (i : Nat) : Nat := 65536 * b2 i + b2 (i + 2)
    let clamp (low high x : Nat) : Nat := max low (min high x)
    let outside (low high x : Nat) : Bool := decide (x < low) || decide (high < x)
    let mode (k : Nat) : Nat := b (62 + 4 * k) / 32
    (r.group = BitVec.ofNat 48 (65536 * b4 0 + b2 4) ∧ r.typeCode = BitVec.ofNat 16 (b2 6) ∧
      r.ensemble = BitVec.ofNat 8 (b 8) ∧ r.nodes = clamp 4 16 (b 9) ∧ r.tolerance = min 5 (b 10) ∧
      r.roundCode = BitVec.ofNat 2 (b 11 / 64) ∧ r.closeCode = BitVec.ofNat 2 (b 11 / 16 % 4) ∧
      r.refEnable = decide (b 11 / 8 % 2 = 1) ∧ r.anchorClass = BitVec.ofNat 3 (b 11 % 8) ∧
      r.trackGain = min 12 (b 12 / 16) ∧ r.acquireGain = min 12 (b 12 % 16) ∧ r.glitch = b 13 % 16 ∧
      r.slewLimit = clamp 1 1000000 (b4 14) ∧ r.stepThreshold = clamp r.slewLimit 4194304 (b4 18) ∧
      r.band = min 4194304 (b4 22) ∧ r.splitBound = min 4194304 (b4 26) ∧ r.portSkew = min 4194304 (b4 30) ∧
      r.maxDelay = clamp 10 1000 (b2 34) ∧ r.congestion = b2 36 ∧ r.growth = b2 38 ∧
      r.k0 = BitVec.ofNat 32 (b4 40) ∧ r.k1 = BitVec.ofNat 32 (b4 44) ∧ r.k2 = BitVec.ofNat 32 (b4 48) ∧
      r.k3 = BitVec.ofNat 32 (b4 52) ∧ r.masks = BitVec.ofNat 16 (b2 56) ∧
      (∀ j : Fin 8, r.lamp[j] = BitVec.ofNat 4 (if j.val % 2 = 0 then b (58 + j / 2) / 16 else b (58 + j / 2) % 16)) ∧
      (∀ k : Fin 4, let o := r.outs[k]
        o.mode = [OutMode.off, .pulse, .train, .lamp, .code].getD (mode k) .off ∧
        o.pairing = (decide (k = 0 ∨ k = 2) && decide (b (62 + 4 * k) / 16 % 2 = 1)) ∧ o.floor = b (62 + 4 * k) % 16 ∧
        o.rate = BitVec.ofNat 4 (b (63 + 4 * k) % 16) ∧ o.width = clamp 1 500 (b2 (64 + 4 * k))) ∧
      ∀ i : Fin 8, r.inputs[i].edge = [EdgeSetting.none, .rise, .fall, .both].getD (b (78 + i) / 4 % 4) .none ∧
        r.inputs[i].group = [Option.none, some GroupId.g0, some .g1].getD (b (78 + i) % 4) Option.none) ∧
    clampCount l = ([outside 4 16 (b 9), outside 0 5 (b 10), outside 0 12 (b 12 / 16), outside 0 12 (b 12 % 16),
      outside 1 1000000 (b4 14), outside r.slewLimit 4194304 (b4 18), outside 0 4194304 (b4 22), outside 0 4194304 (b4 26),
      outside 0 4194304 (b4 30), outside 10 1000 (b2 34), outside 1 500 (b2 64), outside 1 500 (b2 68), outside 1 500 (b2 72),
      outside 1 500 (b2 76)].count true) ∧
    (∀ i, offends l i = true ↔
      (i = 11 ∧ 125 * 2 ^ (b 11 / 64) < 16 * 2 ^ (b 11 / 16 % 4)) ∨
      (∃ k, k < 4 ∧ i = 62 + 4 * k ∧ (4 < mode k ∨
        ((k = 0 ∨ k = 2) ∧ b i / 16 % 2 = 1 ∧ (mode k ≠ 2 ∨ mode (k + 1) ≠ 1)))) ∨
      (∃ k, k < 8 ∧ i = 78 + k ∧ (b i % 4 = 3 ∨ (b i % 4 ≠ 0 ∧ b i / 4 % 4 = 3)))) ∧
    ((∀ i, i < 86 → offends l i = false) →
      4 ≤ r.nodes ∧ r.nodes ≤ 16 ∧ r.tolerance ≤ 5 ∧ r.trackGain ≤ 12 ∧ r.acquireGain ≤ 12 ∧ r.glitch ≤ 15 ∧
      1 ≤ r.slewLimit ∧ r.slewLimit ≤ 1000000 ∧ r.slewLimit ≤ r.stepThreshold ∧ r.stepThreshold ≤ 4194304 ∧
      r.band ≤ 4194304 ∧ r.splitBound ≤ 4194304 ∧ r.portSkew ≤ 4194304 ∧ 10 ≤ r.maxDelay ∧ r.maxDelay ≤ 1000 ∧
      16 * r.closeQns ≤ r.roundQns ∧
      (∀ k : Fin 4, 1 ≤ r.outs[k].width ∧ r.outs[k].width ≤ 500 ∧ r.outs[k].floor ≤ 15) ∧
      (r.outs[0].pairing = true → r.outs[0].mode = .train ∧ r.outs[1].mode = .pulse) ∧
      (r.outs[2].pairing = true → r.outs[2].mode = .train ∧ r.outs[3].mode = .pulse) ∧
      ∀ i : Fin 8, r.inputs[i].group ≠ none → r.inputs[i].edge ≠ .both)

/-- START (R15, R33, R36, R70, R95, R144, R155, R158, R164, R174): the first failing check decides the refusal, which changes nothing; an
accepted START begins LISTEN at reading 0 with the rate adjustment kept, each group armed exactly while all its
members are inactive, the record locked, and the first instants named: the top of second 1 and not that of reading 0, and node
0's transmit instant at reading 0 itself (DEDUCED, log entry 5). No lamp stays dark (DEDUCED, log entry 36), and the rest of the
Output Unit and of the Capture Unit is left as it was. -/
def Obligations.StartBeginsListen : Prop :=
  ∀ (e : Elapsed) (s : State), let u := s.elapse e
    let refused (code : Byte) := State.setPort u { u.port with dataOut := [0x00#8, code] }
    u.pins.resetAsserted = false →
    (u.steer.nodeState ≠ .config ∨ u.port.record = none ∨ u.port.strapValid ≠ .valid →
      exec (.start e) s = .next (refused 0x02#8)) ∧
    ∀ c, u.steer.nodeState = .config → u.port.record = some c → u.port.strapValid = .valid →
      (c.nodes < 3 * c.tolerance + 1 ∨ c.nodes ≤ u.port.strapId.toNat → exec (.start e) s = .next (refused 0x03#8)) ∧
      (3 * c.tolerance + 1 ≤ c.nodes → u.port.strapId.toNat < c.nodes → ∃ t, exec (.start e) s = .next t ∧
        t = { u with
          clock := t.clock, steer := t.steer, ref := t.ref, ports := t.ports, round := { u.round with quiet := 0 }
          outs := t.outs, code := t.code, capture := t.capture, port := t.port } ∧
        t.clock = { reading := Timestamp.zero, residue := 0, rate := u.clock.rate, slew := none, stepCount := 0#8
                    named := { top := some (Timestamp.ofInt 4000000000), half := some (Timestamp.ofInt 2000000000)
                               close := some (Timestamp.ofInt c.closeQns)
                               transmit := some (Timestamp.ofInt (u.port.strapId.toNat * 128000)) } } ∧
        t.steer = { Steering.reset with nodeState := .listen } ∧ t.ref = RefUnit.reset ∧
        (∀ p, t.ports.get p = { u.ports.get p with history := [], egressStep := 0#8 }) ∧
        t.code = { pendingFrame := none, current := none, referenceStep := 0#8 } ∧
        t.outs = { u.outs with channels := t.outs.channels, lampLatch := c.envelopes .listen, clockTiming := true } ∧
        (∀ k : Fin 4, t.outs.channels[k] = { u.outs.channels[k] with dark := false }) ∧
        t.capture = { u.capture with inputs := t.capture.inputs, arm0 := t.capture.arm0, arm1 := t.capture.arm1 } ∧
        (∀ i : Fin 8, t.capture.inputs[i] = { level := some u.pins.event[i], candidate := none }) ∧
        (let inactive (g : GroupId) : Prop := ∀ j : Fin 8, c.inputs[j].group = some g →
            (c.inputs[j].edge = .rise → u.pins.event[j] = false) ∧ (c.inputs[j].edge = .fall → u.pins.event[j] = true);
          (inactive .g0 → t.capture.arm0 = some .armed) ∧ (¬inactive .g0 → t.capture.arm0 = some .disarmed) ∧
          (inactive .g1 → t.capture.arm1 = some .armed) ∧ (¬inactive .g1 → t.capture.arm1 = some .disarmed)) ∧
        t.port = { u.port with locked := true, dataOut := [0x00#8, 0x01#8] })

/-- CLEAR (R68, R167): the answer is the flags before the clearing; the selected condition flags are cleared, FAULT is not,
CAPTURE_LOSS returns the overflow count to 0, and each selected slot, live and published, has its SUMMARY flag and its counters
returned to 0; nothing else changes. The flags are answered as one 16-bit word and a FAULT byte (DEDUCED, log entry 10). -/
def Obligations.ClearClearsSelected : Prop :=
  ∀ (e : Elapsed) (conditions : BitVec 32) (slots : BitVec 16) (s : State), let u := s.elapse e
    let cleared (x y : Slot) := y = { x with
      verdict := { x.verdict with summary := false }, counters := Vector.replicate 10 0 }
    u.pins.resetAsserted = false → ∃ t, exec (.clear e conditions slots) s = .next t ∧
      t = { u with
        cond := t.cond, capture := t.capture, slots := t.slots, published := { u.published with slots := t.published.slots }
        port := { u.port with dataOut := List.replicate 7 0x00#8 ++ 0x01#8 :: (bytes2 u.cond.flags ++
          [if u.cond.fault then 1#8 else 0#8]) } } ∧
      t.cond.fault = u.cond.fault ∧
      (∀ i, i < 16 → t.cond.flags.getLsbD i = (u.cond.flags.getLsbD i && !conditions.getLsbD i)) ∧
      t.capture = { u.capture with overflow := if conditions.getLsbD 12 then 0 else u.capture.overflow } ∧
      ∀ i : Fin 16, if slots.getLsbD i.val
        then cleared u.slots[i] t.slots[i] ∧ cleared u.published.slots[i] t.published.slots[i]
        else t.slots[i] = u.slots[i] ∧ t.published.slots[i] = u.published.slots[i]

/-- ANCHOR_TIME (R123): REFUSE_STATE while REF is disabled or the node is in WARMUP, CONFIG or FAULT, then REFUSE_ARG for a
UTC offset beyond ±1000, each without effect; otherwise it becomes the pending anchor time, to expire 2 s on. -/
def Obligations.AnchorTimePends : Prop :=
  ∀ (e : Elapsed) (seconds : BitVec 40) (utcOffset : BitVec 16) (flags : Byte) (s : State), let u := s.elapse e
    let out (code : Byte) : CommandPort := { u.port with dataOut := List.replicate 9 0x00#8 ++ [code] }
    let able := u.config.refEnable = true ∧ u.steer.nodeState.running = true
    let inRange := -1000 ≤ utcOffset.toInt ∧ utcOffset.toInt ≤ 1000
    u.pins.resetAsserted = false →
    (¬able → exec (.anchorTime e seconds utcOffset flags) s = .next { u with port := out 0x02#8 }) ∧
    (able → ¬inRange → exec (.anchorTime e seconds utcOffset flags) s = .next { u with port := out 0x03#8 }) ∧
    (able → inRange → exec (.anchorTime e seconds utcOffset flags) s = .next { u with
      port := out 0x01#8
      ref := { u.ref with
        pendingTime := some
          { seconds := seconds, expiry := u.clock.reading.plus 8000000000
            utc := { offset := utcOffset.toInt, pending := flags.getLsbD 1, deletion := flags.getLsbD 0 } } } })

/-- Transactions the port does not understand (R168, R169): the events that the argument window held back are taken as though no
command had arrived, each as the command of its name at its own instant and so with its own stamp, and none of what they do
stands before the report (that the command carries them as an operand is the model's form, log entry 34). The report
then follows at its own instant: an unknown code is answered REFUSE_ARG; a transaction cut short or run over its window shifts
out only 00h; each sets COMMAND and has no other effect. -/
def Obligations.MalformedTransactionsReport : Prop :=
  ∀ (w : Window) (s : State), ∃ v, EventsTaken w.held s v ∧ let u := v.elapse w.rest
    (v.pins.resetAsserted = false →
      (∀ code, argumentLength code = none → exec (.unknownCommand w code) s = .next { u with
        cond := u.cond.raise 15, port := { u.port with dataOut := [0x00#8, 0x03#8] } }) ∧
      ∀ sent, transactionIncomplete sent = true →
        exec (.transactionCutShort w sent) s = .next { u with
          cond := u.cond.raise 15, port := { u.port with dataOut := List.replicate sent.length 0x00#8 } } ∧
        exec (.argumentWindowOverrun w sent) s = .next { u with
          cond := u.cond.raise 15, port := { u.port with dataOut := List.replicate sent.length 0x00#8 } })

/-- The lines the part drives, at any instant. ALERT (R166): released while a reset is held, and otherwise asserted exactly while
an unmasked condition flag or the FAULT flag is set; without a record every flag is unmasked. EVENT (R161): asserted exactly
while the capture FIFO holds a record. OUT0 to OUT3 (R131): low while a reset is held and in OFF mode; a pulse or a train as it
stands; a lamp, unless dark, high while every envelope of its latch is, timed by the clock or the monitor (R143, R144); a code
line at the level of the current frame's symbol, in the second that the frame describes, while RUNNING (R147, R151), and otherwise until the tail of a mute (R153). -/
def Obligations.AlertFollowsFlags : Prop :=
  ∀ s : State, (s.pins.resetAsserted = true → s.alert = false ∧ ∀ k, s.outLevel k = false) ∧
    (s.pins.resetAsserted = false → (s.alert = true ↔ s.cond.fault = true ∨
      ∃ i, i < 16 ∧ s.cond.flags.getLsbD i = true ∧ ∀ c, s.port.record = some c → c.masks.getLsbD i = false)) ∧
    (s.eventLine = true ↔ s.capture.fifo ≠ []) ∧
    (s.pins.resetAsserted = false → ∀ k : Fin 4, let c := s.outs.channels[k]; let now := s.clock.reading
      match s.config.outs[k].mode with
      | .off => s.outLevel k = false
      | .pulse | .train => s.outLevel k = c.high
      | .lamp => (s.outLevel k = true ↔ c.dark = false ∧ ∀ j, j < 4 → s.outs.lampLatch.getLsbD j = true →
          if s.outs.clockTiming then now.fraction % (4000000000 / 2 ^ j) < 2000000000 / 2 ^ j
          else s.monitor.phase % (1000000 / 2 ^ j) < 500000 / 2 ^ j)
      | .code =>
        (c.phase = .running → (s.outLevel k = true ↔ ∃ f, s.code.current = some f ∧
          f.second = BitVec.ofNat 40 now.seconds ∧ now.fraction % 80000000 < (match f.symbols.getD (now.fraction / 80000000) .zero with
            | .zero => 20000000
            | .one => 40000000
            | .mark => 60000000))) ∧
        (c.phase ≠ .running → (s.outLevel k = true ↔ ∃ g, c.tail = some g ∧ now.reached g = false)))

/-! ## Frames and transactions: encode and decode agree -/

/-- Every tick with at most 15 echo entries in ascending order is read back from its protected bytes, whatever check
word and padding follow them (R28). -/
def Obligations.TickRoundTrip : Prop :=
  ∀ (t : Tick) (check : BitVec 32) (padding : List Byte), t.echoes.length ≤ 15 →
    t.echoes.Pairwise (fun x y => x.peer.toNat < y.peer.toNat) →
    Tick.decode (t.encode ++ bytes4 check ++ padding) = some t

/-- Every well-formed command that the host sends as a transaction is read back from its bytes (R168, R169,
Table 10-2), with the time it carries and what its window held back. -/
def Obligations.TransactionRoundTrip : Prop :=
  ∀ (i : Instr) (bytes : List Byte), WellFormed i = true → encodeTransaction i = some bytes →
    decodeTransaction i.window bytes = i

/-- The frame in which a node sends a tick passes every check of another node that is configured like it: the frame
checks, the structural checks and the check word (R27, R28, R35, R39, R40; the form of the frame check
sequence is PRESUMED, log entry 11). -/
def Obligations.SentFrameIsValid : Prop :=
  ∀ (cfg : ConfigRecord) (t : Tick) (own id : BitVec 4) (p : PortId), cfg.typeCode ≠ 0x8100#16 → t.echoes.length ≤ 15 →
    t.echoes.Pairwise (fun x y => x.peer.toNat < y.peer.toNat) → t.ensemble = cfg.ensemble → t.period = cfg.roundCode →
    t.sender.toNat < cfg.nodes → t.sender ≠ own →
    let frame := cfg.frameOf id p (t.encode ++ bytes4 (cfg.checkWord t.encode))
    frameSound frame = true ∧ ∃ body, structural cfg own frame = .passes t body ∧ checkVerifies cfg body = true

/-! ## What every step keeps -/

/-- HEADLINE. FAULT is left only by a reset: no other command, and no idle step, changes the node state, the class, the rate
adjustment, the step count or the FAULT flag (R22, R113). -/
def Obligations.FaultLastsUntilReset : Prop :=
  ∀ s t : State, s.steer.nodeState = .fault → (∀ c rest, s.pending = c :: rest → isReset c = false) → step s = .next t →
    t.steer.nodeState = .fault ∧ t.steer.accuracyClass = s.steer.accuracyClass ∧ t.clock.rate = s.clock.rate ∧
      t.clock.stepCount = s.clock.stepCount ∧ t.cond.fault = s.cond.fault

/-- HEADLINE. Between START and the next reset the step count moves only by steps: each command leaves it, or adds one to it,
sets STEPPED and makes every held transmit record invalid (R13, R37). A malformed transaction adds at most one for each
event that its window held back (R169), and where it adds any, STEPPED is set. -/
def Obligations.EveryStepIsReported : Prop :=
  ∀ (c : Instr) (s t : State), isReset c = false → (∀ e, c ≠ .start e) → exec c s = .next t →
    (c.window.held = [] → t.clock.stepCount = s.clock.stepCount ∨
      (t.clock.stepCount = s.clock.stepCount + 1#8 ∧ t.flag 2 = true ∧ ∀ p, ∀ h ∈ (t.ports.get p).history, h.valid = false)) ∧
    (c.window.held ≠ [] → t.clock.stepCount = s.clock.stepCount ∨ ∃ n, n ≤ c.window.held.length ∧
      t.clock.stepCount = s.clock.stepCount + BitVec.ofNat 8 n ∧ t.flag 2 = true)

/-- HEADLINE. From START on only a reset changes the configuration record, and only a reset takes the part back before START: each
command, and so each step, keeps both (R172 to R174). -/
def Obligations.RecordIsLocked : Prop :=
  (∀ (c : Instr) (s t : State), s.steer.nodeState.clocked = true → isReset c = false → exec c s = .next t →
    t.port.record = s.port.record ∧ t.steer.nodeState.clocked = true) ∧
  ∀ s t : State, s.steer.nodeState.clocked = true → (∀ c rest, s.pending = c :: rest → isReset c = false) →
    step s = .next t → t.port.record = s.port.record ∧ t.steer.nodeState.clocked = true

/-- HEADLINE. Every step keeps the bounds of the rate adjustment (R8), the capture FIFO (R160), the own transmit histories
(R36) and the delay windows (R52, R53). -/
def Obligations.EveryStepKeepsBounds : Prop :=
  ∀ s t : State, step s = .next t → (s.RateBounded → t.RateBounded) ∧ (s.FifoBounded → t.FifoBounded) ∧
    (s.HistoriesBounded → t.HistoriesBounded) ∧ (s.WindowsBounded → t.WindowsBounded)

/-- HEADLINE. Every step keeps the own slot VACANT (R46, R69) and REF selected where R95 allows it. -/
def Obligations.EveryStepKeepsRecordLawful : Prop :=
  ∀ s t : State, step s = .next t → (s.OwnSlotVacant → t.OwnSlotVacant) ∧ (s.RefSelectedFits → t.RefSelectedFits)

/-- The state after a power-on reset meets the invariants. -/
def Obligations.InvariantsHoldAtReset : Prop :=
  State.reset.RateBounded ∧ State.reset.FifoBounded ∧ State.reset.HistoriesBounded ∧ State.reset.WindowsBounded ∧
    State.reset.OwnSlotVacant ∧ State.reset.RefSelectedFits
end

