-- ==== Sys2Proof/Laws/Arith.lean ====
section
/-! SUPPORT. What the shared arithmetic can answer: roundings, clamps, saturating counts, the sorted lanes and the bytes of a
number. -/

namespace Sys2Proof.Machine

/-- Rounding half to even does not leave an interval whose ends are integers, from below (R82). -/
theorem le_halfEven {a low : Int} {b : Nat} (hb : 0 < b) (h : low * b ≤ a) : low ≤ halfEven a b := by
  have hb' : (0 : Int) < b := by exact_mod_cast hb
  have hd : low ≤ a / (b : Int) := (Int.le_ediv_iff_mul_le hb').mpr h
  unfold halfEven
  simp only
  split_ifs <;> omega

/-- Rounding half to even does not leave an interval whose ends are integers, from above (R82). -/
theorem halfEven_le {a high : Int} {b : Nat} (hb : 0 < b) (h : a ≤ high * b) : halfEven a b ≤ high := by
  have hb' : (0 : Int) < b := by exact_mod_cast hb
  have hm := Int.emod_add_mul_ediv a b
  have h0 := Int.emod_nonneg a (ne_of_gt hb')
  have hd : a / (b : Int) ≤ high := Int.ediv_le_of_le_mul hb' h
  have hs : 0 < a % (b : Int) → a / (b : Int) + 1 ≤ high := by
    intro hp
    by_contra hc
    have he : a / (b : Int) = high := by omega
    rw [he] at hm
    nlinarith
  unfold halfEven
  simp only
  split_ifs <;> omega

theorem clampTo_le {limit x : Int} (h : 0 ≤ limit) : |clampTo limit x| ≤ limit := by
  rw [abs_le]
  unfold clampTo
  split_ifs <;> omega

theorem satSucc_le (limit x : Nat) : satSucc limit x ≤ limit := Nat.min_le_left _ _

theorem insertLane_perm (x : SetLane) (l : List SetLane) : (insertLane x l).Perm (x :: l) := by
  induction l with
  | nil => exact .refl _
  | cons y l ih =>
    unfold insertLane
    split
    · exact .refl _
    · exact (ih.cons y).trans (.swap x y l)

/-- Sorting reorders the lanes and loses none (R81). -/
theorem sortLanes_perm (l : List SetLane) : (sortLanes l).Perm l := by
  induction l with
  | nil => exact .refl _
  | cons x l ih => exact (insertLane_perm x _).trans (ih.cons x)

theorem insertLane_sorted (x : SetLane) (l : List SetLane) (h : l.Pairwise fun a b => a.value ≤ b.value) :
    (insertLane x l).Pairwise fun a b => a.value ≤ b.value := by
  induction l with
  | nil => simp [insertLane]
  | cons y l ih =>
    have hy := List.pairwise_cons.mp h
    unfold insertLane
    split
    · next hb =>
      have hxy : x.value ≤ y.value := by
        simp only [SetLane.before, Bool.or_eq_true, decide_eq_true_eq, Bool.and_eq_true] at hb
        omega
      exact List.pairwise_cons.mpr ⟨fun z hz => by
        rcases List.mem_cons.mp hz with rfl | hz
        · exact hxy
        · exact hxy.trans (hy.1 z hz), h⟩
    · next hb =>
      have hyx : y.value ≤ x.value := by
        simp only [SetLane.before, Bool.or_eq_true, decide_eq_true_eq, Bool.and_eq_true] at hb
        omega
      exact List.pairwise_cons.mpr ⟨fun z hz => by
        rcases List.mem_cons.mp ((insertLane_perm x l).mem_iff.mp hz) with rfl | hz
        · exact hyx
        · exact hy.1 z hz, ih hy.2⟩

/-- The sorted order is ascending in value (R80). -/
theorem sortLanes_sorted (l : List SetLane) : (sortLanes l).Pairwise fun a b => a.value ≤ b.value := by
  induction l with
  | nil => exact .nil
  | cons x l ih => exact insertLane_sorted x _ ih

/-- A total is its whole part and a rest that points its way (R3, R11). -/
theorem tdiv_tmod_spec (total : Int) {unit : Int} (h : 0 < unit) :
    total.tdiv unit * unit + total.tmod unit = total ∧ |total.tmod unit| < unit ∧ (0 ≤ total → 0 ≤ total.tmod unit) ∧
      (total ≤ 0 → total.tmod unit ≤ 0) := by
  have hneg : total ≤ 0 → total.tmod unit ≤ 0 := fun ht => by
    have := Int.tmod_nonneg (a := -total) unit (by omega)
    rw [Int.neg_tmod] at this
    omega
  refine ⟨Int.tdiv_mul_add_tmod total unit, ?_, fun ht => Int.tmod_nonneg unit ht, hneg⟩
  rw [abs_lt]
  rcases le_total 0 total with ht | ht
  · have h0 := Int.tmod_nonneg unit ht
    have h1 := Int.tmod_lt_of_pos total h
    omega
  · have h1 := Int.tmod_lt_of_pos (-total) h
    rw [Int.neg_tmod] at h1
    have h2 := hneg ht
    omega

@[simp] theorem sortLanes_length (l : List SetLane) : (sortLanes l).length = l.length := (sortLanes_perm l).length_eq

@[simp] theorem beBytes_length (n : Nat) (z : Int) : (beBytes n z).length = n := by
  induction n with
  | zero => rfl
  | succ n ih => simp [beBytes, ih]

end Sys2Proof.Machine
end

