-- ==== Sys2Proof/Laws/Idle.lean ====
section
/-! SUPPORT. The order in which the events of one idle step join the queue: sorting keeps every event, once, and puts the one
whose instant came longest ago first (R7); and which events are due. -/

namespace Sys2Proof.Machine

/-- An event put into its place is there, and the others stay. -/
theorem insertDue_perm (x : Int × Instr) (l : List (Int × Instr)) : (insertDue x l).Perm (x :: l) := by
  induction l with
  | nil => exact .refl _
  | cons y ys ih =>
    simp only [insertDue]
    split
    · exact .refl _
    · exact (ih.cons y).trans (.swap x y ys)

/-- Sorting keeps every event. -/
theorem sortDue_perm (l : List (Int × Instr)) : (sortDue l).Perm l := by
  induction l with
  | nil => exact .refl _
  | cons x xs ih => exact (insertDue_perm x _).trans (ih.cons x)

/-- An event put into its place in a sorted list leaves it sorted. -/
theorem insertDue_sorted (x : Int × Instr) (l : List (Int × Instr)) (h : l.Pairwise fun a b => b.1 ≤ a.1) :
    (insertDue x l).Pairwise fun a b => b.1 ≤ a.1 := by
  induction l with
  | nil => simp [insertDue]
  | cons y ys ih =>
    have hy := List.pairwise_cons.mp h
    simp only [insertDue]
    split
    · next hle => exact List.pairwise_cons.mpr ⟨fun z hz => by
        rcases List.mem_cons.mp hz with rfl | hz
        · exact hle
        · exact (hy.1 z hz).trans hle, h⟩
    · next hlt =>
      refine List.pairwise_cons.mpr ⟨fun z hz => ?_, ih hy.2⟩
      rcases List.mem_cons.mp ((insertDue_perm x ys).mem_iff.mp hz) with rfl | hz
      · omega
      · exact hy.1 z hz

/-- The sorted list runs from the event whose instant came longest ago. -/
theorem sortDue_sorted (l : List (Int × Instr)) : (sortDue l).Pairwise fun a b => b.1 ≤ a.1 := by
  induction l with
  | nil => exact .nil
  | cons x xs ih => exact insertDue_sorted x _ ih

/-- Sorting neither adds an event nor takes one out. -/
@[simp] theorem mem_sortDue (x : Int × Instr) (l : List (Int × Instr)) : x ∈ sortDue l ↔ x ∈ l := (sortDue_perm l).mem_iff

/-! ## The events that are due -/

/-- A named reading raises its event once it is reached. -/
theorem State.mem_due (s : State) (t : Option Timestamp) (i : Instr) (p : Int × Instr) :
    p ∈ s.due t i ↔ p.2 = i ∧ 0 ≤ p.1 ∧ t.map (fun r => s.clock.reading.diff r) = some p.1 := by
  obtain ⟨a, j⟩ := p
  cases t with
  | none => simp [State.due]
  | some r =>
    simp only [State.due, Timestamp.reached, decide_eq_true_eq, Option.map_some, Option.some.injEq]
    split
    · next h =>
      simp only [List.mem_singleton, Prod.mk.injEq]
      constructor
      · rintro ⟨rfl, rfl⟩; exact ⟨rfl, h, rfl⟩
      · rintro ⟨rfl, -, rfl⟩; exact ⟨rfl, rfl⟩
    · next h =>
      simp only [List.not_mem_nil, false_iff]
      rintro ⟨rfl, h2, rfl⟩
      exact h h2

/-- The end of a REF window is due once it is reached (R119). -/
theorem State.mem_dueMiss (s : State) (hh : s.held = false) (a : Int) (i : Instr) :
    (a, i) ∈ s.dueMiss ↔ i = .missInstant Elapsed.none ∧ 0 ≤ a ∧ s.sinceInstant i = some a := by
  have hs : s.sinceInstant (.missInstant Elapsed.none) = s.pastMiss := by
    simp only [State.sinceInstant, State.pastMiss, State.refActs, State.running, hh, Bool.not_false, Bool.true_and,
      Bool.and_eq_true]
    by_cases h : s.config.refEnable = true ∧ s.steer.nodeState.running = true ∧ s.ref.state ≠ .absent
    · rw [if_pos h, if_pos ⟨⟨h.1, h.2.1⟩, h.2.2⟩]
      cases hp : s.ref.lastPulse <;> simp [RefUnit.elapsedAt, hp]
      ring
    · rw [if_neg h, if_neg (by tauto)]
  unfold State.dueMiss
  cases hp : s.pastMiss with
  | none => simp; rintro rfl; simp [hs, hp]
  | some d =>
    simp only
    split
    · next h =>
      simp only [List.mem_singleton, Prod.mk.injEq]
      constructor
      · rintro ⟨rfl, rfl⟩; exact ⟨rfl, h, by rw [hs, hp]⟩
      · rintro ⟨rfl, -, h2⟩; rw [hs, hp] at h2; exact ⟨(Option.some.inj h2).symm, rfl⟩
    · next h =>
      simp only [List.not_mem_nil, false_iff]
      rintro ⟨rfl, h1, h2⟩
      rw [hs, hp] at h2
      exact h (Option.some.inj h2 ▸ h1)

/-- The clock's instants that are due are those whose readings have been reached (R7). -/
theorem State.mem_dueInstants (s : State) (hh : s.held = false) (p : Int × Instr) :
    p ∈ s.dueInstants ↔ p.2.elapsed = Elapsed.none ∧ 0 ≤ p.1 ∧ s.sinceInstant p.2 = some p.1 := by
  obtain ⟨a, i⟩ := p
  simp only [State.dueInstants, List.mem_append, State.mem_due, List.mem_flatMap, List.mem_finRange, true_and,
    s.mem_dueMiss hh]
  cases i <;> simp [State.sinceInstant, Instr.elapsed, Instr.window, Channel.edgeReading]

/-- The filtered edges that are due are those whose candidates have held for the filter time (R156). -/
theorem State.mem_dueEdges (s : State) (p : Int × Instr) :
    p ∈ (List.finRange 8).flatMap s.dueEdge ↔ ∃ k c, p = ((c.held : Int), .filteredEdge Elapsed.none k) ∧
      s.capture.inputs[k].candidate = some c ∧ s.config.filterCycles ≤ c.held := by
  simp only [List.mem_flatMap, List.mem_finRange, true_and]
  apply exists_congr
  intro k
  unfold State.dueEdge
  cases h : s.capture.inputs[k].candidate with
  | none => simp
  | some c => by_cases hc : s.config.filterCycles ≤ c.held <;> simp [hc]

end Sys2Proof.Machine
end

