-- ==== Sys2Proof/Laws/State.lean ====
section
/-! SUPPORT. The state's updates: one lemma for each field of each update, so that no proof unfolds one. -/

namespace Sys2Proof.Machine

variable (s : State)

/-! ## `setPending` -/

@[simp] theorem State.setPending_pending (x : List Instr) : (s.setPending x).pending = x := rfl
@[simp] theorem State.setPending_idleCount (x : List Instr) : (s.setPending x).idleCount = s.idleCount := rfl
@[simp] theorem State.setPending_pins (x : List Instr) : (s.setPending x).pins = s.pins := rfl
@[simp] theorem State.setPending_clock (x : List Instr) : (s.setPending x).clock = s.clock := rfl
@[simp] theorem State.setPending_monitor (x : List Instr) : (s.setPending x).monitor = s.monitor := rfl
@[simp] theorem State.setPending_ports (x : List Instr) : (s.setPending x).ports = s.ports := rfl
@[simp] theorem State.setPending_slots (x : List Instr) : (s.setPending x).slots = s.slots := rfl
@[simp] theorem State.setPending_published (x : List Instr) : (s.setPending x).published = s.published := rfl
@[simp] theorem State.setPending_round (x : List Instr) : (s.setPending x).round = s.round := rfl
@[simp] theorem State.setPending_steer (x : List Instr) : (s.setPending x).steer = s.steer := rfl
@[simp] theorem State.setPending_ref (x : List Instr) : (s.setPending x).ref = s.ref := rfl
@[simp] theorem State.setPending_outs (x : List Instr) : (s.setPending x).outs = s.outs := rfl
@[simp] theorem State.setPending_code (x : List Instr) : (s.setPending x).code = s.code := rfl
@[simp] theorem State.setPending_capture (x : List Instr) : (s.setPending x).capture = s.capture := rfl
@[simp] theorem State.setPending_cond (x : List Instr) : (s.setPending x).cond = s.cond := rfl
@[simp] theorem State.setPending_port (x : List Instr) : (s.setPending x).port = s.port := rfl
@[simp] theorem State.setPending_self : s.setPending s.pending = s := rfl
@[simp] theorem State.setPending_setPending (x y : List Instr) : (s.setPending x).setPending y = s.setPending y := rfl

/-! ## `setIdleCount` -/

@[simp] theorem State.setIdleCount_pending (x : Nat) : (s.setIdleCount x).pending = s.pending := rfl
@[simp] theorem State.setIdleCount_idleCount (x : Nat) : (s.setIdleCount x).idleCount = x := rfl
@[simp] theorem State.setIdleCount_pins (x : Nat) : (s.setIdleCount x).pins = s.pins := rfl
@[simp] theorem State.setIdleCount_clock (x : Nat) : (s.setIdleCount x).clock = s.clock := rfl
@[simp] theorem State.setIdleCount_monitor (x : Nat) : (s.setIdleCount x).monitor = s.monitor := rfl
@[simp] theorem State.setIdleCount_ports (x : Nat) : (s.setIdleCount x).ports = s.ports := rfl
@[simp] theorem State.setIdleCount_slots (x : Nat) : (s.setIdleCount x).slots = s.slots := rfl
@[simp] theorem State.setIdleCount_published (x : Nat) : (s.setIdleCount x).published = s.published := rfl
@[simp] theorem State.setIdleCount_round (x : Nat) : (s.setIdleCount x).round = s.round := rfl
@[simp] theorem State.setIdleCount_steer (x : Nat) : (s.setIdleCount x).steer = s.steer := rfl
@[simp] theorem State.setIdleCount_ref (x : Nat) : (s.setIdleCount x).ref = s.ref := rfl
@[simp] theorem State.setIdleCount_outs (x : Nat) : (s.setIdleCount x).outs = s.outs := rfl
@[simp] theorem State.setIdleCount_code (x : Nat) : (s.setIdleCount x).code = s.code := rfl
@[simp] theorem State.setIdleCount_capture (x : Nat) : (s.setIdleCount x).capture = s.capture := rfl
@[simp] theorem State.setIdleCount_cond (x : Nat) : (s.setIdleCount x).cond = s.cond := rfl
@[simp] theorem State.setIdleCount_port (x : Nat) : (s.setIdleCount x).port = s.port := rfl
@[simp] theorem State.setIdleCount_self : s.setIdleCount s.idleCount = s := rfl
@[simp] theorem State.setIdleCount_setIdleCount (x y : Nat) : (s.setIdleCount x).setIdleCount y = s.setIdleCount y := rfl

/-! ## `setPins` -/

@[simp] theorem State.setPins_pending (x : Pins) : (s.setPins x).pending = s.pending := rfl
@[simp] theorem State.setPins_idleCount (x : Pins) : (s.setPins x).idleCount = s.idleCount := rfl
@[simp] theorem State.setPins_pins (x : Pins) : (s.setPins x).pins = x := rfl
@[simp] theorem State.setPins_clock (x : Pins) : (s.setPins x).clock = s.clock := rfl
@[simp] theorem State.setPins_monitor (x : Pins) : (s.setPins x).monitor = s.monitor := rfl
@[simp] theorem State.setPins_ports (x : Pins) : (s.setPins x).ports = s.ports := rfl
@[simp] theorem State.setPins_slots (x : Pins) : (s.setPins x).slots = s.slots := rfl
@[simp] theorem State.setPins_published (x : Pins) : (s.setPins x).published = s.published := rfl
@[simp] theorem State.setPins_round (x : Pins) : (s.setPins x).round = s.round := rfl
@[simp] theorem State.setPins_steer (x : Pins) : (s.setPins x).steer = s.steer := rfl
@[simp] theorem State.setPins_ref (x : Pins) : (s.setPins x).ref = s.ref := rfl
@[simp] theorem State.setPins_outs (x : Pins) : (s.setPins x).outs = s.outs := rfl
@[simp] theorem State.setPins_code (x : Pins) : (s.setPins x).code = s.code := rfl
@[simp] theorem State.setPins_capture (x : Pins) : (s.setPins x).capture = s.capture := rfl
@[simp] theorem State.setPins_cond (x : Pins) : (s.setPins x).cond = s.cond := rfl
@[simp] theorem State.setPins_port (x : Pins) : (s.setPins x).port = s.port := rfl
@[simp] theorem State.setPins_self : s.setPins s.pins = s := rfl
@[simp] theorem State.setPins_setPins (x y : Pins) : (s.setPins x).setPins y = s.setPins y := rfl

/-! ## `setClock` -/

@[simp] theorem State.setClock_pending (x : Clock) : (s.setClock x).pending = s.pending := rfl
@[simp] theorem State.setClock_idleCount (x : Clock) : (s.setClock x).idleCount = s.idleCount := rfl
@[simp] theorem State.setClock_pins (x : Clock) : (s.setClock x).pins = s.pins := rfl
@[simp] theorem State.setClock_clock (x : Clock) : (s.setClock x).clock = x := rfl
@[simp] theorem State.setClock_monitor (x : Clock) : (s.setClock x).monitor = s.monitor := rfl
@[simp] theorem State.setClock_ports (x : Clock) : (s.setClock x).ports = s.ports := rfl
@[simp] theorem State.setClock_slots (x : Clock) : (s.setClock x).slots = s.slots := rfl
@[simp] theorem State.setClock_published (x : Clock) : (s.setClock x).published = s.published := rfl
@[simp] theorem State.setClock_round (x : Clock) : (s.setClock x).round = s.round := rfl
@[simp] theorem State.setClock_steer (x : Clock) : (s.setClock x).steer = s.steer := rfl
@[simp] theorem State.setClock_ref (x : Clock) : (s.setClock x).ref = s.ref := rfl
@[simp] theorem State.setClock_outs (x : Clock) : (s.setClock x).outs = s.outs := rfl
@[simp] theorem State.setClock_code (x : Clock) : (s.setClock x).code = s.code := rfl
@[simp] theorem State.setClock_capture (x : Clock) : (s.setClock x).capture = s.capture := rfl
@[simp] theorem State.setClock_cond (x : Clock) : (s.setClock x).cond = s.cond := rfl
@[simp] theorem State.setClock_port (x : Clock) : (s.setClock x).port = s.port := rfl
@[simp] theorem State.setClock_self : s.setClock s.clock = s := rfl
@[simp] theorem State.setClock_setClock (x y : Clock) : (s.setClock x).setClock y = s.setClock y := rfl

/-! ## `setMonitor` -/

@[simp] theorem State.setMonitor_pending (x : Monitor) : (s.setMonitor x).pending = s.pending := rfl
@[simp] theorem State.setMonitor_idleCount (x : Monitor) : (s.setMonitor x).idleCount = s.idleCount := rfl
@[simp] theorem State.setMonitor_pins (x : Monitor) : (s.setMonitor x).pins = s.pins := rfl
@[simp] theorem State.setMonitor_clock (x : Monitor) : (s.setMonitor x).clock = s.clock := rfl
@[simp] theorem State.setMonitor_monitor (x : Monitor) : (s.setMonitor x).monitor = x := rfl
@[simp] theorem State.setMonitor_ports (x : Monitor) : (s.setMonitor x).ports = s.ports := rfl
@[simp] theorem State.setMonitor_slots (x : Monitor) : (s.setMonitor x).slots = s.slots := rfl
@[simp] theorem State.setMonitor_published (x : Monitor) : (s.setMonitor x).published = s.published := rfl
@[simp] theorem State.setMonitor_round (x : Monitor) : (s.setMonitor x).round = s.round := rfl
@[simp] theorem State.setMonitor_steer (x : Monitor) : (s.setMonitor x).steer = s.steer := rfl
@[simp] theorem State.setMonitor_ref (x : Monitor) : (s.setMonitor x).ref = s.ref := rfl
@[simp] theorem State.setMonitor_outs (x : Monitor) : (s.setMonitor x).outs = s.outs := rfl
@[simp] theorem State.setMonitor_code (x : Monitor) : (s.setMonitor x).code = s.code := rfl
@[simp] theorem State.setMonitor_capture (x : Monitor) : (s.setMonitor x).capture = s.capture := rfl
@[simp] theorem State.setMonitor_cond (x : Monitor) : (s.setMonitor x).cond = s.cond := rfl
@[simp] theorem State.setMonitor_port (x : Monitor) : (s.setMonitor x).port = s.port := rfl
@[simp] theorem State.setMonitor_self : s.setMonitor s.monitor = s := rfl
@[simp] theorem State.setMonitor_setMonitor (x y : Monitor) : (s.setMonitor x).setMonitor y = s.setMonitor y := rfl

/-! ## `setPorts` -/

@[simp] theorem State.setPorts_pending (x : Pair LinkPort) : (s.setPorts x).pending = s.pending := rfl
@[simp] theorem State.setPorts_idleCount (x : Pair LinkPort) : (s.setPorts x).idleCount = s.idleCount := rfl
@[simp] theorem State.setPorts_pins (x : Pair LinkPort) : (s.setPorts x).pins = s.pins := rfl
@[simp] theorem State.setPorts_clock (x : Pair LinkPort) : (s.setPorts x).clock = s.clock := rfl
@[simp] theorem State.setPorts_monitor (x : Pair LinkPort) : (s.setPorts x).monitor = s.monitor := rfl
@[simp] theorem State.setPorts_ports (x : Pair LinkPort) : (s.setPorts x).ports = x := rfl
@[simp] theorem State.setPorts_slots (x : Pair LinkPort) : (s.setPorts x).slots = s.slots := rfl
@[simp] theorem State.setPorts_published (x : Pair LinkPort) : (s.setPorts x).published = s.published := rfl
@[simp] theorem State.setPorts_round (x : Pair LinkPort) : (s.setPorts x).round = s.round := rfl
@[simp] theorem State.setPorts_steer (x : Pair LinkPort) : (s.setPorts x).steer = s.steer := rfl
@[simp] theorem State.setPorts_ref (x : Pair LinkPort) : (s.setPorts x).ref = s.ref := rfl
@[simp] theorem State.setPorts_outs (x : Pair LinkPort) : (s.setPorts x).outs = s.outs := rfl
@[simp] theorem State.setPorts_code (x : Pair LinkPort) : (s.setPorts x).code = s.code := rfl
@[simp] theorem State.setPorts_capture (x : Pair LinkPort) : (s.setPorts x).capture = s.capture := rfl
@[simp] theorem State.setPorts_cond (x : Pair LinkPort) : (s.setPorts x).cond = s.cond := rfl
@[simp] theorem State.setPorts_port (x : Pair LinkPort) : (s.setPorts x).port = s.port := rfl
@[simp] theorem State.setPorts_self : s.setPorts s.ports = s := rfl
@[simp] theorem State.setPorts_setPorts (x y : Pair LinkPort) : (s.setPorts x).setPorts y = s.setPorts y := rfl

/-! ## `setSlots` -/

@[simp] theorem State.setSlots_pending (x : Vector Slot 16) : (s.setSlots x).pending = s.pending := rfl
@[simp] theorem State.setSlots_idleCount (x : Vector Slot 16) : (s.setSlots x).idleCount = s.idleCount := rfl
@[simp] theorem State.setSlots_pins (x : Vector Slot 16) : (s.setSlots x).pins = s.pins := rfl
@[simp] theorem State.setSlots_clock (x : Vector Slot 16) : (s.setSlots x).clock = s.clock := rfl
@[simp] theorem State.setSlots_monitor (x : Vector Slot 16) : (s.setSlots x).monitor = s.monitor := rfl
@[simp] theorem State.setSlots_ports (x : Vector Slot 16) : (s.setSlots x).ports = s.ports := rfl
@[simp] theorem State.setSlots_slots (x : Vector Slot 16) : (s.setSlots x).slots = x := rfl
@[simp] theorem State.setSlots_published (x : Vector Slot 16) : (s.setSlots x).published = s.published := rfl
@[simp] theorem State.setSlots_round (x : Vector Slot 16) : (s.setSlots x).round = s.round := rfl
@[simp] theorem State.setSlots_steer (x : Vector Slot 16) : (s.setSlots x).steer = s.steer := rfl
@[simp] theorem State.setSlots_ref (x : Vector Slot 16) : (s.setSlots x).ref = s.ref := rfl
@[simp] theorem State.setSlots_outs (x : Vector Slot 16) : (s.setSlots x).outs = s.outs := rfl
@[simp] theorem State.setSlots_code (x : Vector Slot 16) : (s.setSlots x).code = s.code := rfl
@[simp] theorem State.setSlots_capture (x : Vector Slot 16) : (s.setSlots x).capture = s.capture := rfl
@[simp] theorem State.setSlots_cond (x : Vector Slot 16) : (s.setSlots x).cond = s.cond := rfl
@[simp] theorem State.setSlots_port (x : Vector Slot 16) : (s.setSlots x).port = s.port := rfl
@[simp] theorem State.setSlots_self : s.setSlots s.slots = s := rfl
@[simp] theorem State.setSlots_setSlots (x y : Vector Slot 16) : (s.setSlots x).setSlots y = s.setSlots y := rfl

/-! ## `setPublished` -/

@[simp] theorem State.setPublished_pending (x : Published) : (s.setPublished x).pending = s.pending := rfl
@[simp] theorem State.setPublished_idleCount (x : Published) : (s.setPublished x).idleCount = s.idleCount := rfl
@[simp] theorem State.setPublished_pins (x : Published) : (s.setPublished x).pins = s.pins := rfl
@[simp] theorem State.setPublished_clock (x : Published) : (s.setPublished x).clock = s.clock := rfl
@[simp] theorem State.setPublished_monitor (x : Published) : (s.setPublished x).monitor = s.monitor := rfl
@[simp] theorem State.setPublished_ports (x : Published) : (s.setPublished x).ports = s.ports := rfl
@[simp] theorem State.setPublished_slots (x : Published) : (s.setPublished x).slots = s.slots := rfl
@[simp] theorem State.setPublished_published (x : Published) : (s.setPublished x).published = x := rfl
@[simp] theorem State.setPublished_round (x : Published) : (s.setPublished x).round = s.round := rfl
@[simp] theorem State.setPublished_steer (x : Published) : (s.setPublished x).steer = s.steer := rfl
@[simp] theorem State.setPublished_ref (x : Published) : (s.setPublished x).ref = s.ref := rfl
@[simp] theorem State.setPublished_outs (x : Published) : (s.setPublished x).outs = s.outs := rfl
@[simp] theorem State.setPublished_code (x : Published) : (s.setPublished x).code = s.code := rfl
@[simp] theorem State.setPublished_capture (x : Published) : (s.setPublished x).capture = s.capture := rfl
@[simp] theorem State.setPublished_cond (x : Published) : (s.setPublished x).cond = s.cond := rfl
@[simp] theorem State.setPublished_port (x : Published) : (s.setPublished x).port = s.port := rfl
@[simp] theorem State.setPublished_self : s.setPublished s.published = s := rfl
@[simp] theorem State.setPublished_setPublished (x y : Published) : (s.setPublished x).setPublished y = s.setPublished y := rfl

/-! ## `setRound` -/

@[simp] theorem State.setRound_pending (x : RoundEngine) : (s.setRound x).pending = s.pending := rfl
@[simp] theorem State.setRound_idleCount (x : RoundEngine) : (s.setRound x).idleCount = s.idleCount := rfl
@[simp] theorem State.setRound_pins (x : RoundEngine) : (s.setRound x).pins = s.pins := rfl
@[simp] theorem State.setRound_clock (x : RoundEngine) : (s.setRound x).clock = s.clock := rfl
@[simp] theorem State.setRound_monitor (x : RoundEngine) : (s.setRound x).monitor = s.monitor := rfl
@[simp] theorem State.setRound_ports (x : RoundEngine) : (s.setRound x).ports = s.ports := rfl
@[simp] theorem State.setRound_slots (x : RoundEngine) : (s.setRound x).slots = s.slots := rfl
@[simp] theorem State.setRound_published (x : RoundEngine) : (s.setRound x).published = s.published := rfl
@[simp] theorem State.setRound_round (x : RoundEngine) : (s.setRound x).round = x := rfl
@[simp] theorem State.setRound_steer (x : RoundEngine) : (s.setRound x).steer = s.steer := rfl
@[simp] theorem State.setRound_ref (x : RoundEngine) : (s.setRound x).ref = s.ref := rfl
@[simp] theorem State.setRound_outs (x : RoundEngine) : (s.setRound x).outs = s.outs := rfl
@[simp] theorem State.setRound_code (x : RoundEngine) : (s.setRound x).code = s.code := rfl
@[simp] theorem State.setRound_capture (x : RoundEngine) : (s.setRound x).capture = s.capture := rfl
@[simp] theorem State.setRound_cond (x : RoundEngine) : (s.setRound x).cond = s.cond := rfl
@[simp] theorem State.setRound_port (x : RoundEngine) : (s.setRound x).port = s.port := rfl
@[simp] theorem State.setRound_self : s.setRound s.round = s := rfl
@[simp] theorem State.setRound_setRound (x y : RoundEngine) : (s.setRound x).setRound y = s.setRound y := rfl

/-! ## `setSteer` -/

@[simp] theorem State.setSteer_pending (x : Steering) : (s.setSteer x).pending = s.pending := rfl
@[simp] theorem State.setSteer_idleCount (x : Steering) : (s.setSteer x).idleCount = s.idleCount := rfl
@[simp] theorem State.setSteer_pins (x : Steering) : (s.setSteer x).pins = s.pins := rfl
@[simp] theorem State.setSteer_clock (x : Steering) : (s.setSteer x).clock = s.clock := rfl
@[simp] theorem State.setSteer_monitor (x : Steering) : (s.setSteer x).monitor = s.monitor := rfl
@[simp] theorem State.setSteer_ports (x : Steering) : (s.setSteer x).ports = s.ports := rfl
@[simp] theorem State.setSteer_slots (x : Steering) : (s.setSteer x).slots = s.slots := rfl
@[simp] theorem State.setSteer_published (x : Steering) : (s.setSteer x).published = s.published := rfl
@[simp] theorem State.setSteer_round (x : Steering) : (s.setSteer x).round = s.round := rfl
@[simp] theorem State.setSteer_steer (x : Steering) : (s.setSteer x).steer = x := rfl
@[simp] theorem State.setSteer_ref (x : Steering) : (s.setSteer x).ref = s.ref := rfl
@[simp] theorem State.setSteer_outs (x : Steering) : (s.setSteer x).outs = s.outs := rfl
@[simp] theorem State.setSteer_code (x : Steering) : (s.setSteer x).code = s.code := rfl
@[simp] theorem State.setSteer_capture (x : Steering) : (s.setSteer x).capture = s.capture := rfl
@[simp] theorem State.setSteer_cond (x : Steering) : (s.setSteer x).cond = s.cond := rfl
@[simp] theorem State.setSteer_port (x : Steering) : (s.setSteer x).port = s.port := rfl
@[simp] theorem State.setSteer_self : s.setSteer s.steer = s := rfl
@[simp] theorem State.setSteer_setSteer (x y : Steering) : (s.setSteer x).setSteer y = s.setSteer y := rfl

/-! ## `setRef` -/

@[simp] theorem State.setRef_pending (x : RefUnit) : (s.setRef x).pending = s.pending := rfl
@[simp] theorem State.setRef_idleCount (x : RefUnit) : (s.setRef x).idleCount = s.idleCount := rfl
@[simp] theorem State.setRef_pins (x : RefUnit) : (s.setRef x).pins = s.pins := rfl
@[simp] theorem State.setRef_clock (x : RefUnit) : (s.setRef x).clock = s.clock := rfl
@[simp] theorem State.setRef_monitor (x : RefUnit) : (s.setRef x).monitor = s.monitor := rfl
@[simp] theorem State.setRef_ports (x : RefUnit) : (s.setRef x).ports = s.ports := rfl
@[simp] theorem State.setRef_slots (x : RefUnit) : (s.setRef x).slots = s.slots := rfl
@[simp] theorem State.setRef_published (x : RefUnit) : (s.setRef x).published = s.published := rfl
@[simp] theorem State.setRef_round (x : RefUnit) : (s.setRef x).round = s.round := rfl
@[simp] theorem State.setRef_steer (x : RefUnit) : (s.setRef x).steer = s.steer := rfl
@[simp] theorem State.setRef_ref (x : RefUnit) : (s.setRef x).ref = x := rfl
@[simp] theorem State.setRef_outs (x : RefUnit) : (s.setRef x).outs = s.outs := rfl
@[simp] theorem State.setRef_code (x : RefUnit) : (s.setRef x).code = s.code := rfl
@[simp] theorem State.setRef_capture (x : RefUnit) : (s.setRef x).capture = s.capture := rfl
@[simp] theorem State.setRef_cond (x : RefUnit) : (s.setRef x).cond = s.cond := rfl
@[simp] theorem State.setRef_port (x : RefUnit) : (s.setRef x).port = s.port := rfl
@[simp] theorem State.setRef_self : s.setRef s.ref = s := rfl
@[simp] theorem State.setRef_setRef (x y : RefUnit) : (s.setRef x).setRef y = s.setRef y := rfl

/-! ## `setOuts` -/

@[simp] theorem State.setOuts_pending (x : OutputUnit) : (s.setOuts x).pending = s.pending := rfl
@[simp] theorem State.setOuts_idleCount (x : OutputUnit) : (s.setOuts x).idleCount = s.idleCount := rfl
@[simp] theorem State.setOuts_pins (x : OutputUnit) : (s.setOuts x).pins = s.pins := rfl
@[simp] theorem State.setOuts_clock (x : OutputUnit) : (s.setOuts x).clock = s.clock := rfl
@[simp] theorem State.setOuts_monitor (x : OutputUnit) : (s.setOuts x).monitor = s.monitor := rfl
@[simp] theorem State.setOuts_ports (x : OutputUnit) : (s.setOuts x).ports = s.ports := rfl
@[simp] theorem State.setOuts_slots (x : OutputUnit) : (s.setOuts x).slots = s.slots := rfl
@[simp] theorem State.setOuts_published (x : OutputUnit) : (s.setOuts x).published = s.published := rfl
@[simp] theorem State.setOuts_round (x : OutputUnit) : (s.setOuts x).round = s.round := rfl
@[simp] theorem State.setOuts_steer (x : OutputUnit) : (s.setOuts x).steer = s.steer := rfl
@[simp] theorem State.setOuts_ref (x : OutputUnit) : (s.setOuts x).ref = s.ref := rfl
@[simp] theorem State.setOuts_outs (x : OutputUnit) : (s.setOuts x).outs = x := rfl
@[simp] theorem State.setOuts_code (x : OutputUnit) : (s.setOuts x).code = s.code := rfl
@[simp] theorem State.setOuts_capture (x : OutputUnit) : (s.setOuts x).capture = s.capture := rfl
@[simp] theorem State.setOuts_cond (x : OutputUnit) : (s.setOuts x).cond = s.cond := rfl
@[simp] theorem State.setOuts_port (x : OutputUnit) : (s.setOuts x).port = s.port := rfl
@[simp] theorem State.setOuts_self : s.setOuts s.outs = s := rfl
@[simp] theorem State.setOuts_setOuts (x y : OutputUnit) : (s.setOuts x).setOuts y = s.setOuts y := rfl

/-! ## `setCode` -/

@[simp] theorem State.setCode_pending (x : CodeComposer) : (s.setCode x).pending = s.pending := rfl
@[simp] theorem State.setCode_idleCount (x : CodeComposer) : (s.setCode x).idleCount = s.idleCount := rfl
@[simp] theorem State.setCode_pins (x : CodeComposer) : (s.setCode x).pins = s.pins := rfl
@[simp] theorem State.setCode_clock (x : CodeComposer) : (s.setCode x).clock = s.clock := rfl
@[simp] theorem State.setCode_monitor (x : CodeComposer) : (s.setCode x).monitor = s.monitor := rfl
@[simp] theorem State.setCode_ports (x : CodeComposer) : (s.setCode x).ports = s.ports := rfl
@[simp] theorem State.setCode_slots (x : CodeComposer) : (s.setCode x).slots = s.slots := rfl
@[simp] theorem State.setCode_published (x : CodeComposer) : (s.setCode x).published = s.published := rfl
@[simp] theorem State.setCode_round (x : CodeComposer) : (s.setCode x).round = s.round := rfl
@[simp] theorem State.setCode_steer (x : CodeComposer) : (s.setCode x).steer = s.steer := rfl
@[simp] theorem State.setCode_ref (x : CodeComposer) : (s.setCode x).ref = s.ref := rfl
@[simp] theorem State.setCode_outs (x : CodeComposer) : (s.setCode x).outs = s.outs := rfl
@[simp] theorem State.setCode_code (x : CodeComposer) : (s.setCode x).code = x := rfl
@[simp] theorem State.setCode_capture (x : CodeComposer) : (s.setCode x).capture = s.capture := rfl
@[simp] theorem State.setCode_cond (x : CodeComposer) : (s.setCode x).cond = s.cond := rfl
@[simp] theorem State.setCode_port (x : CodeComposer) : (s.setCode x).port = s.port := rfl
@[simp] theorem State.setCode_self : s.setCode s.code = s := rfl
@[simp] theorem State.setCode_setCode (x y : CodeComposer) : (s.setCode x).setCode y = s.setCode y := rfl

/-! ## `setCapture` -/

@[simp] theorem State.setCapture_pending (x : CaptureUnit) : (s.setCapture x).pending = s.pending := rfl
@[simp] theorem State.setCapture_idleCount (x : CaptureUnit) : (s.setCapture x).idleCount = s.idleCount := rfl
@[simp] theorem State.setCapture_pins (x : CaptureUnit) : (s.setCapture x).pins = s.pins := rfl
@[simp] theorem State.setCapture_clock (x : CaptureUnit) : (s.setCapture x).clock = s.clock := rfl
@[simp] theorem State.setCapture_monitor (x : CaptureUnit) : (s.setCapture x).monitor = s.monitor := rfl
@[simp] theorem State.setCapture_ports (x : CaptureUnit) : (s.setCapture x).ports = s.ports := rfl
@[simp] theorem State.setCapture_slots (x : CaptureUnit) : (s.setCapture x).slots = s.slots := rfl
@[simp] theorem State.setCapture_published (x : CaptureUnit) : (s.setCapture x).published = s.published := rfl
@[simp] theorem State.setCapture_round (x : CaptureUnit) : (s.setCapture x).round = s.round := rfl
@[simp] theorem State.setCapture_steer (x : CaptureUnit) : (s.setCapture x).steer = s.steer := rfl
@[simp] theorem State.setCapture_ref (x : CaptureUnit) : (s.setCapture x).ref = s.ref := rfl
@[simp] theorem State.setCapture_outs (x : CaptureUnit) : (s.setCapture x).outs = s.outs := rfl
@[simp] theorem State.setCapture_code (x : CaptureUnit) : (s.setCapture x).code = s.code := rfl
@[simp] theorem State.setCapture_capture (x : CaptureUnit) : (s.setCapture x).capture = x := rfl
@[simp] theorem State.setCapture_cond (x : CaptureUnit) : (s.setCapture x).cond = s.cond := rfl
@[simp] theorem State.setCapture_port (x : CaptureUnit) : (s.setCapture x).port = s.port := rfl
@[simp] theorem State.setCapture_self : s.setCapture s.capture = s := rfl
@[simp] theorem State.setCapture_setCapture (x y : CaptureUnit) : (s.setCapture x).setCapture y = s.setCapture y := rfl

/-! ## `setCond` -/

@[simp] theorem State.setCond_pending (x : ConditionBlock) : (s.setCond x).pending = s.pending := rfl
@[simp] theorem State.setCond_idleCount (x : ConditionBlock) : (s.setCond x).idleCount = s.idleCount := rfl
@[simp] theorem State.setCond_pins (x : ConditionBlock) : (s.setCond x).pins = s.pins := rfl
@[simp] theorem State.setCond_clock (x : ConditionBlock) : (s.setCond x).clock = s.clock := rfl
@[simp] theorem State.setCond_monitor (x : ConditionBlock) : (s.setCond x).monitor = s.monitor := rfl
@[simp] theorem State.setCond_ports (x : ConditionBlock) : (s.setCond x).ports = s.ports := rfl
@[simp] theorem State.setCond_slots (x : ConditionBlock) : (s.setCond x).slots = s.slots := rfl
@[simp] theorem State.setCond_published (x : ConditionBlock) : (s.setCond x).published = s.published := rfl
@[simp] theorem State.setCond_round (x : ConditionBlock) : (s.setCond x).round = s.round := rfl
@[simp] theorem State.setCond_steer (x : ConditionBlock) : (s.setCond x).steer = s.steer := rfl
@[simp] theorem State.setCond_ref (x : ConditionBlock) : (s.setCond x).ref = s.ref := rfl
@[simp] theorem State.setCond_outs (x : ConditionBlock) : (s.setCond x).outs = s.outs := rfl
@[simp] theorem State.setCond_code (x : ConditionBlock) : (s.setCond x).code = s.code := rfl
@[simp] theorem State.setCond_capture (x : ConditionBlock) : (s.setCond x).capture = s.capture := rfl
@[simp] theorem State.setCond_cond (x : ConditionBlock) : (s.setCond x).cond = x := rfl
@[simp] theorem State.setCond_port (x : ConditionBlock) : (s.setCond x).port = s.port := rfl
@[simp] theorem State.setCond_self : s.setCond s.cond = s := rfl
@[simp] theorem State.setCond_setCond (x y : ConditionBlock) : (s.setCond x).setCond y = s.setCond y := rfl

/-! ## `setPort` -/

@[simp] theorem State.setPort_pending (x : CommandPort) : (s.setPort x).pending = s.pending := rfl
@[simp] theorem State.setPort_idleCount (x : CommandPort) : (s.setPort x).idleCount = s.idleCount := rfl
@[simp] theorem State.setPort_pins (x : CommandPort) : (s.setPort x).pins = s.pins := rfl
@[simp] theorem State.setPort_clock (x : CommandPort) : (s.setPort x).clock = s.clock := rfl
@[simp] theorem State.setPort_monitor (x : CommandPort) : (s.setPort x).monitor = s.monitor := rfl
@[simp] theorem State.setPort_ports (x : CommandPort) : (s.setPort x).ports = s.ports := rfl
@[simp] theorem State.setPort_slots (x : CommandPort) : (s.setPort x).slots = s.slots := rfl
@[simp] theorem State.setPort_published (x : CommandPort) : (s.setPort x).published = s.published := rfl
@[simp] theorem State.setPort_round (x : CommandPort) : (s.setPort x).round = s.round := rfl
@[simp] theorem State.setPort_steer (x : CommandPort) : (s.setPort x).steer = s.steer := rfl
@[simp] theorem State.setPort_ref (x : CommandPort) : (s.setPort x).ref = s.ref := rfl
@[simp] theorem State.setPort_outs (x : CommandPort) : (s.setPort x).outs = s.outs := rfl
@[simp] theorem State.setPort_code (x : CommandPort) : (s.setPort x).code = s.code := rfl
@[simp] theorem State.setPort_capture (x : CommandPort) : (s.setPort x).capture = s.capture := rfl
@[simp] theorem State.setPort_cond (x : CommandPort) : (s.setPort x).cond = s.cond := rfl
@[simp] theorem State.setPort_port (x : CommandPort) : (s.setPort x).port = x := rfl
@[simp] theorem State.setPort_self : s.setPort s.port = s := rfl
@[simp] theorem State.setPort_setPort (x y : CommandPort) : (s.setPort x).setPort y = s.setPort y := rfl

end Sys2Proof.Machine
end

