-- ==== Sys2Proof/Laws/Tables.lean ====
section
/-! SUPPORT. Reading the fixed tables and the port pairs after an update. -/

namespace Sys2Proof

@[simp] theorem Pair.get_set_same {α : Type} (p : Pair α) (x : α) (k : PortId) : (p.set x k).get k = x := by
  cases k <;> rfl

theorem Pair.get_set_ne {α : Type} (p : Pair α) (x : α) {j k : PortId} (h : j ≠ k) : (p.set x k).get j = p.get j := by
  cases j <;> cases k <;> first | rfl | exact absurd rfl h

@[simp] theorem Pair.set_get {α : Type} (p : Pair α) (k : PortId) : p.set (p.get k) k = p := by
  cases k <;> rfl

@[simp] theorem Pair.get_map {α β : Type} (p : Pair α) (f : α → β) (k : PortId) : (p.map f).get k = f (p.get k) := by
  cases k <;> rfl

@[simp] theorem Pair.get_a {α : Type} (p : Pair α) : p.get .a = p.a := rfl

@[simp] theorem Pair.get_b {α : Type} (p : Pair α) : p.get .b = p.b := rfl

/-- Two pairs that agree at both ports are one. -/
theorem Pair.ext_get {α : Type} {p q : Pair α} (h : ∀ k, p.get k = q.get k) : p = q := by
  have ha := h .a
  have hb := h .b
  cases p; cases q; simp_all [Pair.get]

end Sys2Proof

namespace Sys2Proof.Machine

variable {α β : Type} {n : Nat}

@[simp] theorem vmap_get (f : α → β) (v : Vector α n) (i : Nat) (h : i < n) : (vmap f v)[i] = f v[i] := by
  simp [vmap]

@[simp] theorem vmapIdx_get (f : Fin n → α → β) (v : Vector α n) (i : Nat) (h : i < n) :
    (vmapIdx f v)[i] = f ⟨i, h⟩ v[i] := by
  simp [vmapIdx]

@[simp] theorem vtable_get (f : Fin n → β) (i : Nat) (h : i < n) : (vtable n f)[i] = f ⟨i, h⟩ := by
  simp [vtable]

/-- An entry after an update is the old one, or the changed one at its place. -/
theorem vmodify_get (v : Vector α n) (i : Fin n) (f : α → α) (j : Nat) (h : j < n) :
    (vmodify v i f)[j] = if j = i then f v[j] else v[j] := by
  by_cases e : j = i
  · subst e; simp [vmodify]
  · simp [vmodify, e, Ne.symm e]

@[simp] theorem vmodify_get_same (v : Vector α n) (i : Fin n) (f : α → α) : (vmodify v i f)[i.val] = f v[i.val] := by
  simp [vmodify_get]

theorem vmodify_get_ne (v : Vector α n) (i : Fin n) (f : α → α) {j : Nat} (h : j < n) (e : j ≠ i) :
    (vmodify v i f)[j] = v[j] := by
  simp [vmodify_get, e]

/-- Two tables that agree at every place are one. -/
theorem table_ext {v w : Vector α n} (h : ∀ i : Fin n, v[i] = w[i]) : v = w :=
  Vector.ext fun i hi => h ⟨i, hi⟩

end Sys2Proof.Machine
end

