-- ==== Sys2Proof/Laws/Ops.lean ====
section
/-! SUPPORT. What each shared operation over the state can do: the fields it leaves alone, and what it does to the one it
changes. -/

namespace Sys2Proof.Machine

variable (s : State)

/-! ## Reports (R165) -/

@[simp] theorem State.report_pending (c : Condition) : (s.report c).pending = s.pending := rfl
@[simp] theorem State.report_idleCount (c : Condition) : (s.report c).idleCount = s.idleCount := rfl
@[simp] theorem State.report_pins (c : Condition) : (s.report c).pins = s.pins := rfl
@[simp] theorem State.report_clock (c : Condition) : (s.report c).clock = s.clock := rfl
@[simp] theorem State.report_monitor (c : Condition) : (s.report c).monitor = s.monitor := rfl
@[simp] theorem State.report_ports (c : Condition) : (s.report c).ports = s.ports := rfl
@[simp] theorem State.report_slots (c : Condition) : (s.report c).slots = s.slots := rfl
@[simp] theorem State.report_published (c : Condition) : (s.report c).published = s.published := rfl
@[simp] theorem State.report_round (c : Condition) : (s.report c).round = s.round := rfl
@[simp] theorem State.report_steer (c : Condition) : (s.report c).steer = s.steer := rfl
@[simp] theorem State.report_ref (c : Condition) : (s.report c).ref = s.ref := rfl
@[simp] theorem State.report_outs (c : Condition) : (s.report c).outs = s.outs := rfl
@[simp] theorem State.report_code (c : Condition) : (s.report c).code = s.code := rfl
@[simp] theorem State.report_capture (c : Condition) : (s.report c).capture = s.capture := rfl
@[simp] theorem State.report_port (c : Condition) : (s.report c).port = s.port := rfl

/-- A report sets its flag and leaves FAULT alone. -/
theorem State.report_cond (c : Condition) :
    (s.report c).cond = { s.cond with flags := s.cond.flags ||| (1#16 <<< c.bit.val) } := rfl

@[simp] theorem State.report_fault (c : Condition) : (s.report c).cond.fault = s.cond.fault := rfl

@[simp] theorem State.report_held (c : Condition) : (s.report c).held = s.held := rfl

@[simp] theorem State.reportIf_pending (b : Bool) (c : Condition) : (s.reportIf b c).pending = s.pending := by
  cases b <;> rfl
@[simp] theorem State.reportIf_idleCount (b : Bool) (c : Condition) : (s.reportIf b c).idleCount = s.idleCount := by
  cases b <;> rfl
@[simp] theorem State.reportIf_pins (b : Bool) (c : Condition) : (s.reportIf b c).pins = s.pins := by
  cases b <;> rfl
@[simp] theorem State.reportIf_clock (b : Bool) (c : Condition) : (s.reportIf b c).clock = s.clock := by
  cases b <;> rfl
@[simp] theorem State.reportIf_monitor (b : Bool) (c : Condition) : (s.reportIf b c).monitor = s.monitor := by
  cases b <;> rfl
@[simp] theorem State.reportIf_ports (b : Bool) (c : Condition) : (s.reportIf b c).ports = s.ports := by
  cases b <;> rfl
@[simp] theorem State.reportIf_slots (b : Bool) (c : Condition) : (s.reportIf b c).slots = s.slots := by
  cases b <;> rfl
@[simp] theorem State.reportIf_published (b : Bool) (c : Condition) : (s.reportIf b c).published = s.published := by
  cases b <;> rfl
@[simp] theorem State.reportIf_round (b : Bool) (c : Condition) : (s.reportIf b c).round = s.round := by
  cases b <;> rfl
@[simp] theorem State.reportIf_steer (b : Bool) (c : Condition) : (s.reportIf b c).steer = s.steer := by
  cases b <;> rfl
@[simp] theorem State.reportIf_ref (b : Bool) (c : Condition) : (s.reportIf b c).ref = s.ref := by
  cases b <;> rfl
@[simp] theorem State.reportIf_outs (b : Bool) (c : Condition) : (s.reportIf b c).outs = s.outs := by
  cases b <;> rfl
@[simp] theorem State.reportIf_code (b : Bool) (c : Condition) : (s.reportIf b c).code = s.code := by
  cases b <;> rfl
@[simp] theorem State.reportIf_capture (b : Bool) (c : Condition) : (s.reportIf b c).capture = s.capture := by
  cases b <;> rfl
@[simp] theorem State.reportIf_port (b : Bool) (c : Condition) : (s.reportIf b c).port = s.port := by
  cases b <;> rfl

@[simp] theorem State.reportIf_true (c : Condition) : s.reportIf true c = s.report c := rfl

@[simp] theorem State.reportIf_false (c : Condition) : s.reportIf false c = s := rfl

/-- A report never clears a flag. -/
theorem State.report_keeps (c : Condition) (i : Nat) (h : s.cond.flags.getLsbD i = true) :
    (s.report c).cond.flags.getLsbD i = true := by
  simp [State.report_cond, h]

/-- A report made conditionally never clears a flag. -/
theorem State.reportIf_keeps (b : Bool) (c : Condition) (i : Nat) (h : s.cond.flags.getLsbD i = true) :
    (s.reportIf b c).cond.flags.getLsbD i = true := by
  cases b
  · exact h
  · exact s.report_keeps c i h

/-- A report sets its own flag. -/
theorem State.report_sets (c : Condition) : (s.report c).cond.flags.getLsbD c.bit.val = true := by
  cases c <;> simp [State.report_cond, Condition.bit]

/-! ## One port, one slot (R26, R66) -/

@[simp] theorem State.modifyPort_pending (p : PortId) (f : LinkPort → LinkPort) : (s.modifyPort p f).pending = s.pending := rfl
@[simp] theorem State.modifyPort_idleCount (p : PortId) (f : LinkPort → LinkPort) : (s.modifyPort p f).idleCount = s.idleCount := rfl
@[simp] theorem State.modifyPort_pins (p : PortId) (f : LinkPort → LinkPort) : (s.modifyPort p f).pins = s.pins := rfl
@[simp] theorem State.modifyPort_clock (p : PortId) (f : LinkPort → LinkPort) : (s.modifyPort p f).clock = s.clock := rfl
@[simp] theorem State.modifyPort_monitor (p : PortId) (f : LinkPort → LinkPort) : (s.modifyPort p f).monitor = s.monitor := rfl
@[simp] theorem State.modifyPort_slots (p : PortId) (f : LinkPort → LinkPort) : (s.modifyPort p f).slots = s.slots := rfl
@[simp] theorem State.modifyPort_published (p : PortId) (f : LinkPort → LinkPort) : (s.modifyPort p f).published = s.published := rfl
@[simp] theorem State.modifyPort_round (p : PortId) (f : LinkPort → LinkPort) : (s.modifyPort p f).round = s.round := rfl
@[simp] theorem State.modifyPort_steer (p : PortId) (f : LinkPort → LinkPort) : (s.modifyPort p f).steer = s.steer := rfl
@[simp] theorem State.modifyPort_ref (p : PortId) (f : LinkPort → LinkPort) : (s.modifyPort p f).ref = s.ref := rfl
@[simp] theorem State.modifyPort_outs (p : PortId) (f : LinkPort → LinkPort) : (s.modifyPort p f).outs = s.outs := rfl
@[simp] theorem State.modifyPort_code (p : PortId) (f : LinkPort → LinkPort) : (s.modifyPort p f).code = s.code := rfl
@[simp] theorem State.modifyPort_capture (p : PortId) (f : LinkPort → LinkPort) : (s.modifyPort p f).capture = s.capture := rfl
@[simp] theorem State.modifyPort_cond (p : PortId) (f : LinkPort → LinkPort) : (s.modifyPort p f).cond = s.cond := rfl
@[simp] theorem State.modifyPort_port (p : PortId) (f : LinkPort → LinkPort) : (s.modifyPort p f).port = s.port := rfl

@[simp] theorem State.modifyPort_same (p : PortId) (f : LinkPort → LinkPort) :
    (s.modifyPort p f).ports.get p = f (s.ports.get p) := by
  simp [State.modifyPort]

theorem State.modifyPort_other {p q : PortId} (f : LinkPort → LinkPort) (h : q ≠ p) :
    (s.modifyPort p f).ports.get q = s.ports.get q := by
  simp [State.modifyPort, Pair.get_set_ne _ _ h]

/-- A port after one port is changed. -/
theorem State.modifyPort_get (p q : PortId) (f : LinkPort → LinkPort) :
    (s.modifyPort p f).ports.get q = if q = p then f (s.ports.get q) else s.ports.get q := by
  by_cases h : q = p
  · subst h; simp
  · simp [h, s.modifyPort_other f h]

@[simp] theorem State.modifySlot_pending (i : Fin 16) (f : Slot → Slot) : (s.modifySlot i f).pending = s.pending := rfl
@[simp] theorem State.modifySlot_idleCount (i : Fin 16) (f : Slot → Slot) : (s.modifySlot i f).idleCount = s.idleCount := rfl
@[simp] theorem State.modifySlot_pins (i : Fin 16) (f : Slot → Slot) : (s.modifySlot i f).pins = s.pins := rfl
@[simp] theorem State.modifySlot_clock (i : Fin 16) (f : Slot → Slot) : (s.modifySlot i f).clock = s.clock := rfl
@[simp] theorem State.modifySlot_monitor (i : Fin 16) (f : Slot → Slot) : (s.modifySlot i f).monitor = s.monitor := rfl
@[simp] theorem State.modifySlot_ports (i : Fin 16) (f : Slot → Slot) : (s.modifySlot i f).ports = s.ports := rfl
@[simp] theorem State.modifySlot_published (i : Fin 16) (f : Slot → Slot) : (s.modifySlot i f).published = s.published := rfl
@[simp] theorem State.modifySlot_round (i : Fin 16) (f : Slot → Slot) : (s.modifySlot i f).round = s.round := rfl
@[simp] theorem State.modifySlot_steer (i : Fin 16) (f : Slot → Slot) : (s.modifySlot i f).steer = s.steer := rfl
@[simp] theorem State.modifySlot_ref (i : Fin 16) (f : Slot → Slot) : (s.modifySlot i f).ref = s.ref := rfl
@[simp] theorem State.modifySlot_outs (i : Fin 16) (f : Slot → Slot) : (s.modifySlot i f).outs = s.outs := rfl
@[simp] theorem State.modifySlot_code (i : Fin 16) (f : Slot → Slot) : (s.modifySlot i f).code = s.code := rfl
@[simp] theorem State.modifySlot_capture (i : Fin 16) (f : Slot → Slot) : (s.modifySlot i f).capture = s.capture := rfl
@[simp] theorem State.modifySlot_cond (i : Fin 16) (f : Slot → Slot) : (s.modifySlot i f).cond = s.cond := rfl
@[simp] theorem State.modifySlot_port (i : Fin 16) (f : Slot → Slot) : (s.modifySlot i f).port = s.port := rfl

/-- A slot after one slot is changed. -/
theorem State.modifySlot_get (i : Fin 16) (f : Slot → Slot) (j : Nat) (h : j < 16) :
    (s.modifySlot i f).slots[j] = if j = i then f s.slots[j] else s.slots[j] := vmodify_get s.slots i f j h

@[simp] theorem State.bumpPort_pending (p : PortId) (c : PortCounter) : (s.bumpPort p c).pending = s.pending := rfl
@[simp] theorem State.bumpPort_idleCount (p : PortId) (c : PortCounter) : (s.bumpPort p c).idleCount = s.idleCount := rfl
@[simp] theorem State.bumpPort_pins (p : PortId) (c : PortCounter) : (s.bumpPort p c).pins = s.pins := rfl
@[simp] theorem State.bumpPort_clock (p : PortId) (c : PortCounter) : (s.bumpPort p c).clock = s.clock := rfl
@[simp] theorem State.bumpPort_monitor (p : PortId) (c : PortCounter) : (s.bumpPort p c).monitor = s.monitor := rfl
@[simp] theorem State.bumpPort_slots (p : PortId) (c : PortCounter) : (s.bumpPort p c).slots = s.slots := rfl
@[simp] theorem State.bumpPort_published (p : PortId) (c : PortCounter) : (s.bumpPort p c).published = s.published := rfl
@[simp] theorem State.bumpPort_round (p : PortId) (c : PortCounter) : (s.bumpPort p c).round = s.round := rfl
@[simp] theorem State.bumpPort_steer (p : PortId) (c : PortCounter) : (s.bumpPort p c).steer = s.steer := rfl
@[simp] theorem State.bumpPort_ref (p : PortId) (c : PortCounter) : (s.bumpPort p c).ref = s.ref := rfl
@[simp] theorem State.bumpPort_outs (p : PortId) (c : PortCounter) : (s.bumpPort p c).outs = s.outs := rfl
@[simp] theorem State.bumpPort_code (p : PortId) (c : PortCounter) : (s.bumpPort p c).code = s.code := rfl
@[simp] theorem State.bumpPort_capture (p : PortId) (c : PortCounter) : (s.bumpPort p c).capture = s.capture := rfl
@[simp] theorem State.bumpPort_cond (p : PortId) (c : PortCounter) : (s.bumpPort p c).cond = s.cond := rfl
@[simp] theorem State.bumpPort_port (p : PortId) (c : PortCounter) : (s.bumpPort p c).port = s.port := rfl
@[simp] theorem State.bumpSlot_pending (i : Fin 16) (c : SlotCounter) : (s.bumpSlot i c).pending = s.pending := rfl
@[simp] theorem State.bumpSlot_idleCount (i : Fin 16) (c : SlotCounter) : (s.bumpSlot i c).idleCount = s.idleCount := rfl
@[simp] theorem State.bumpSlot_pins (i : Fin 16) (c : SlotCounter) : (s.bumpSlot i c).pins = s.pins := rfl
@[simp] theorem State.bumpSlot_clock (i : Fin 16) (c : SlotCounter) : (s.bumpSlot i c).clock = s.clock := rfl
@[simp] theorem State.bumpSlot_monitor (i : Fin 16) (c : SlotCounter) : (s.bumpSlot i c).monitor = s.monitor := rfl
@[simp] theorem State.bumpSlot_ports (i : Fin 16) (c : SlotCounter) : (s.bumpSlot i c).ports = s.ports := rfl
@[simp] theorem State.bumpSlot_published (i : Fin 16) (c : SlotCounter) : (s.bumpSlot i c).published = s.published := rfl
@[simp] theorem State.bumpSlot_round (i : Fin 16) (c : SlotCounter) : (s.bumpSlot i c).round = s.round := rfl
@[simp] theorem State.bumpSlot_steer (i : Fin 16) (c : SlotCounter) : (s.bumpSlot i c).steer = s.steer := rfl
@[simp] theorem State.bumpSlot_ref (i : Fin 16) (c : SlotCounter) : (s.bumpSlot i c).ref = s.ref := rfl
@[simp] theorem State.bumpSlot_outs (i : Fin 16) (c : SlotCounter) : (s.bumpSlot i c).outs = s.outs := rfl
@[simp] theorem State.bumpSlot_code (i : Fin 16) (c : SlotCounter) : (s.bumpSlot i c).code = s.code := rfl
@[simp] theorem State.bumpSlot_capture (i : Fin 16) (c : SlotCounter) : (s.bumpSlot i c).capture = s.capture := rfl
@[simp] theorem State.bumpSlot_cond (i : Fin 16) (c : SlotCounter) : (s.bumpSlot i c).cond = s.cond := rfl
@[simp] theorem State.bumpSlot_port (i : Fin 16) (c : SlotCounter) : (s.bumpSlot i c).port = s.port := rfl
@[simp] theorem LinkPort.bump_up (p : LinkPort) (c : PortCounter) : (p.bump c).up = p.up := rfl
@[simp] theorem LinkPort.bump_history (p : LinkPort) (c : PortCounter) : (p.bump c).history = p.history := rfl
@[simp] theorem LinkPort.bump_egressStep (p : LinkPort) (c : PortCounter) : (p.bump c).egressStep = p.egressStep := rfl
@[simp] theorem LinkPort.bump_tx (p : LinkPort) (c : PortCounter) : (p.bump c).tx = p.tx := rfl
@[simp] theorem LinkPort.bump_sent (p : LinkPort) (c : PortCounter) : (p.bump c).sent = p.sent := rfl

/-- A counter after one counter of a port is advanced. -/
theorem LinkPort.bump_get (p : LinkPort) (c : PortCounter) (j : Nat) (h : j < 16) :
    (p.bump c).counters[j] = if j = c.index then satSucc Config.counterMax p.counters[j] else p.counters[j] :=
  vmodify_get p.counters c.index _ j h

@[simp] theorem Slot.bump_liveness (x : Slot) (c : SlotCounter) : (x.bump c).liveness = x.liveness := rfl
@[simp] theorem Slot.bumpIf_liveness (x : Slot) (b : Bool) (c : SlotCounter) : (x.bumpIf b c).liveness = x.liveness := by
  cases b <;> rfl
@[simp] theorem Slot.bump_suspect (x : Slot) (c : SlotCounter) : (x.bump c).suspect = x.suspect := rfl
@[simp] theorem Slot.bumpIf_suspect (x : Slot) (b : Bool) (c : SlotCounter) : (x.bumpIf b c).suspect = x.suspect := by
  cases b <;> rfl
@[simp] theorem Slot.bump_windows (x : Slot) (c : SlotCounter) : (x.bump c).windows = x.windows := rfl
@[simp] theorem Slot.bumpIf_windows (x : Slot) (b : Bool) (c : SlotCounter) : (x.bumpIf b c).windows = x.windows := by
  cases b <;> rfl
@[simp] theorem Slot.bump_current (x : Slot) (c : SlotCounter) : (x.bump c).current = x.current := rfl
@[simp] theorem Slot.bumpIf_current (x : Slot) (b : Bool) (c : SlotCounter) : (x.bumpIf b c).current = x.current := by
  cases b <;> rfl
@[simp] theorem Slot.bump_round (x : Slot) (c : SlotCounter) : (x.bump c).round = x.round := rfl
@[simp] theorem Slot.bumpIf_round (x : Slot) (b : Bool) (c : SlotCounter) : (x.bumpIf b c).round = x.round := by
  cases b <;> rfl
@[simp] theorem Slot.bump_prev (x : Slot) (c : SlotCounter) : (x.bump c).prev = x.prev := rfl
@[simp] theorem Slot.bumpIf_prev (x : Slot) (b : Bool) (c : SlotCounter) : (x.bumpIf b c).prev = x.prev := by
  cases b <;> rfl
@[simp] theorem Slot.bump_lane (x : Slot) (c : SlotCounter) : (x.bump c).lane = x.lane := rfl
@[simp] theorem Slot.bumpIf_lane (x : Slot) (b : Bool) (c : SlotCounter) : (x.bumpIf b c).lane = x.lane := by
  cases b <;> rfl
@[simp] theorem Slot.bump_lastLane (x : Slot) (c : SlotCounter) : (x.bump c).lastLane = x.lastLane := rfl
@[simp] theorem Slot.bumpIf_lastLane (x : Slot) (b : Bool) (c : SlotCounter) : (x.bumpIf b c).lastLane = x.lastLane := by
  cases b <;> rfl
@[simp] theorem Slot.bump_verdict (x : Slot) (c : SlotCounter) : (x.bump c).verdict = x.verdict := rfl
@[simp] theorem Slot.bumpIf_verdict (x : Slot) (b : Bool) (c : SlotCounter) : (x.bumpIf b c).verdict = x.verdict := by
  cases b <;> rfl
@[simp] theorem Slot.bump_misses (x : Slot) (c : SlotCounter) : (x.bump c).misses = x.misses := rfl
@[simp] theorem Slot.bumpIf_misses (x : Slot) (b : Bool) (c : SlotCounter) : (x.bumpIf b c).misses = x.misses := by
  cases b <;> rfl
@[simp] theorem Slot.bump_trims (x : Slot) (c : SlotCounter) : (x.bump c).trims = x.trims := rfl
@[simp] theorem Slot.bumpIf_trims (x : Slot) (b : Bool) (c : SlotCounter) : (x.bumpIf b c).trims = x.trims := by
  cases b <;> rfl
@[simp] theorem Slot.bump_agreements (x : Slot) (c : SlotCounter) : (x.bump c).agreements = x.agreements := rfl
@[simp] theorem Slot.bumpIf_agreements (x : Slot) (b : Bool) (c : SlotCounter) : (x.bumpIf b c).agreements = x.agreements := by
  cases b <;> rfl

/-- A counter after one counter of a slot is advanced. -/
theorem Slot.bump_get (x : Slot) (c : SlotCounter) (j : Nat) (h : j < 10) :
    (x.bump c).counters[j] = if j = c.index then satSucc Config.counterMax x.counters[j] else x.counters[j] :=
  vmodify_get x.counters c.index _ j h

/-- A counter after one counter of a slot is advanced conditionally. -/
theorem Slot.bumpIf_get (x : Slot) (b : Bool) (c : SlotCounter) (j : Nat) (h : j < 10) :
    (x.bumpIf b c).counters[j] =
      if b = true ∧ j = c.index then satSucc Config.counterMax x.counters[j] else x.counters[j] := by
  cases b <;> simp [Slot.bumpIf, Slot.bump_get]

/-- Only the counters of a slot move when one is advanced conditionally. -/
theorem Slot.bumpIf_eq (x : Slot) (b : Bool) (c : SlotCounter) :
    x.bumpIf b c = { x with counters := (x.bumpIf b c).counters } := by
  cases b <;> rfl

/-! ## The passing of time (R3, R11, R17, R18) -/

@[simp] theorem State.runClock_pending (n : Nat) : (s.runClock n).pending = s.pending := rfl
@[simp] theorem State.runClock_idleCount (n : Nat) : (s.runClock n).idleCount = s.idleCount := rfl
@[simp] theorem State.runClock_pins (n : Nat) : (s.runClock n).pins = s.pins := rfl
@[simp] theorem State.runClock_monitor (n : Nat) : (s.runClock n).monitor = s.monitor := rfl
@[simp] theorem State.runClock_ports (n : Nat) : (s.runClock n).ports = s.ports := rfl
@[simp] theorem State.runClock_slots (n : Nat) : (s.runClock n).slots = s.slots := rfl
@[simp] theorem State.runClock_published (n : Nat) : (s.runClock n).published = s.published := rfl
@[simp] theorem State.runClock_round (n : Nat) : (s.runClock n).round = s.round := rfl
@[simp] theorem State.runClock_steer (n : Nat) : (s.runClock n).steer = s.steer := rfl
@[simp] theorem State.runClock_outs (n : Nat) : (s.runClock n).outs = s.outs := rfl
@[simp] theorem State.runClock_code (n : Nat) : (s.runClock n).code = s.code := rfl
@[simp] theorem State.runClock_cond (n : Nat) : (s.runClock n).cond = s.cond := rfl
@[simp] theorem State.runClock_port (n : Nat) : (s.runClock n).port = s.port := rfl

@[simp] theorem Clock.advance_rate (k : Clock) (n : Nat) : (k.advance n).1.rate = k.rate := rfl
@[simp] theorem Clock.advance_stepCount (k : Clock) (n : Nat) : (k.advance n).1.stepCount = k.stepCount := rfl
@[simp] theorem Clock.advance_named (k : Clock) (n : Nat) : (k.advance n).1.named = k.named := rfl

/-- A slew in progress keeps its amount, its term and its end while it advances. -/
theorem advanceSlew_isSome (w : Option Slew) (n : Nat) : (advanceSlew w n).1.isSome = w.isSome := by
  cases w <;> rfl

@[simp] theorem State.elapse_pending (e : Elapsed) : (s.elapse e).pending = s.pending := by
  unfold State.elapse; split <;> [rfl; (split <;> rfl)]
@[simp] theorem State.elapse_idleCount (e : Elapsed) : (s.elapse e).idleCount = s.idleCount := by
  unfold State.elapse; split <;> [rfl; (split <;> rfl)]
@[simp] theorem State.elapse_pins (e : Elapsed) : (s.elapse e).pins = s.pins := by
  unfold State.elapse; split <;> [rfl; (split <;> rfl)]
@[simp] theorem State.elapse_ports (e : Elapsed) : (s.elapse e).ports = s.ports := by
  unfold State.elapse; split <;> [rfl; (split <;> rfl)]
@[simp] theorem State.elapse_slots (e : Elapsed) : (s.elapse e).slots = s.slots := by
  unfold State.elapse; split <;> [rfl; (split <;> rfl)]
@[simp] theorem State.elapse_published (e : Elapsed) : (s.elapse e).published = s.published := by
  unfold State.elapse; split <;> [rfl; (split <;> rfl)]
@[simp] theorem State.elapse_round (e : Elapsed) : (s.elapse e).round = s.round := by
  unfold State.elapse; split <;> [rfl; (split <;> rfl)]
@[simp] theorem State.elapse_steer (e : Elapsed) : (s.elapse e).steer = s.steer := by
  unfold State.elapse; split <;> [rfl; (split <;> rfl)]
@[simp] theorem State.elapse_outs (e : Elapsed) : (s.elapse e).outs = s.outs := by
  unfold State.elapse; split <;> [rfl; (split <;> rfl)]
@[simp] theorem State.elapse_code (e : Elapsed) : (s.elapse e).code = s.code := by
  unfold State.elapse; split <;> [rfl; (split <;> rfl)]
@[simp] theorem State.elapse_cond (e : Elapsed) : (s.elapse e).cond = s.cond := by
  unfold State.elapse; split <;> [rfl; (split <;> rfl)]
@[simp] theorem State.elapse_port (e : Elapsed) : (s.elapse e).port = s.port := by
  unfold State.elapse; split <;> [rfl; (split <;> rfl)]

@[simp] theorem State.elapse_rate (e : Elapsed) : (s.elapse e).clock.rate = s.clock.rate := by
  unfold State.elapse; split <;> [rfl; (split <;> rfl)]

@[simp] theorem State.elapse_stepCount (e : Elapsed) : (s.elapse e).clock.stepCount = s.clock.stepCount := by
  unfold State.elapse; split <;> [rfl; (split <;> rfl)]

@[simp] theorem State.elapse_named (e : Elapsed) : (s.elapse e).clock.named = s.clock.named := by
  unfold State.elapse; split <;> [rfl; (split <;> rfl)]

@[simp] theorem State.elapse_fifo (e : Elapsed) : (s.elapse e).capture.fifo = s.capture.fifo := by
  unfold State.elapse; split <;> [rfl; (split <;> rfl)]

@[simp] theorem State.elapse_overflow (e : Elapsed) : (s.elapse e).capture.overflow = s.capture.overflow := by
  unfold State.elapse; split <;> [rfl; (split <;> rfl)]

@[simp] theorem State.elapse_cause (e : Elapsed) : (s.elapse e).monitor.cause = s.monitor.cause := by
  unfold State.elapse; split <;> [rfl; (split <;> rfl)]

@[simp] theorem RefUnit.correct_state (r : RefUnit) (q : Int) : (r.correct q).state = r.state := by
  unfold RefUnit.correct; split <;> rfl

@[simp] theorem State.elapse_refState (e : Elapsed) : (s.elapse e).ref.state = s.ref.state := by
  unfold State.elapse
  split
  · rfl
  · split
    · simp [State.runClock]
    · rfl

@[simp] theorem State.elapse_held (e : Elapsed) : (s.elapse e).held = s.held := by simp [State.held]

@[simp] theorem State.elapse_running (e : Elapsed) : (s.elapse e).running = s.running := by simp [State.running]

@[simp] theorem State.elapse_clocked (e : Elapsed) : (s.elapse e).clocked = s.clocked := by simp [State.clocked]

@[simp] theorem State.elapse_config (e : Elapsed) : (s.elapse e).config = s.config := by simp [State.config]

/-- While a reset is held no time passes. -/
theorem State.elapse_of_held (e : Elapsed) (h : s.held = true) : s.elapse e = s := by simp [State.elapse, h]

end Sys2Proof.Machine
end

