-- ==== Sys2Proof/Laws/PerInstr.lean ====
section
/-! SUPPORT. The statement made once for each command: the bytes of a well-formed command's transaction are a whole command,
except those of a transaction that is cut short (R168, R169). -/

namespace Sys2Proof.Laws.TransactionForm

open Machine

/-- The bytes that the host sends for a well-formed command fall short of a command exactly where the command is
TRANSACTION_CUT_SHORT. -/
def Statement (i : Instr) : Prop :=
  WellFormed i = true → ∀ bytes, encodeTransaction i = some bytes →
    transactionIncomplete bytes = decide (i = .transactionCutShort i.window bytes)

/-- A command that is no transaction has no bytes. -/
theorem of_none {i : Instr} (h : encodeTransaction i = none) : Statement i := by
  intro _ bytes e
  rw [h] at e
  cases e

theorem supplyReset (e : Elapsed) (straps : BitVec 4) : Statement (.supplyReset e straps) := of_none rfl

theorem resetPinAssert (e : Elapsed) : Statement (.resetPinAssert e) := of_none rfl

theorem resetPinRelease (e : Elapsed) (straps : BitVec 4) : Statement (.resetPinRelease e straps) := of_none rfl

theorem commandReset (e : Elapsed) (straps : BitVec 4) : Statement (.commandReset e straps) := of_none rfl

theorem strapSample (e : Elapsed) (straps : BitVec 4) : Statement (.strapSample e straps) := of_none rfl

theorem gateEnd (e : Elapsed) : Statement (.gateEnd e) := of_none rfl

theorem monitorTop (e : Elapsed) : Statement (.monitorTop e) := of_none rfl

theorem linkDrop (e : Elapsed) (port : PortId) (receiving : Bool) : Statement (.linkDrop e port receiving) := of_none rfl

theorem linkUp (e : Elapsed) (port : PortId) : Statement (.linkUp e port) := of_none rfl

theorem transmitInstant (e : Elapsed) : Statement (.transmitInstant e) := of_none rfl

theorem tickEgress (e : Elapsed) (port : PortId) : Statement (.tickEgress e port) := of_none rfl

theorem tickTxComplete (e : Elapsed) (port : PortId) : Statement (.tickTxComplete e port) := of_none rfl

theorem frameReceive (e : Elapsed) (port : PortId) (bytes : List Byte) : Statement (.frameReceive e port bytes) := of_none rfl

theorem roundClose (e : Elapsed) : Statement (.roundClose e) := of_none rfl

theorem roundCompletion (e : Elapsed) : Statement (.roundCompletion e) := of_none rfl

theorem slewEnd (e : Elapsed) : Statement (.slewEnd e) := of_none rfl

theorem refPulse (e : Elapsed) : Statement (.refPulse e) := of_none rfl

theorem missInstant (e : Elapsed) : Statement (.missInstant e) := of_none rfl

theorem anchorTimeExpiry (e : Elapsed) : Statement (.anchorTimeExpiry e) := of_none rfl

theorem topOfSecond (e : Elapsed) : Statement (.topOfSecond e) := of_none rfl

theorem halfSecond (e : Elapsed) : Statement (.halfSecond e) := of_none rfl

theorem pulseEnd (e : Elapsed) (out : Fin 4) : Statement (.pulseEnd e out) := of_none rfl

theorem trainEdge (e : Elapsed) (out : Fin 4) : Statement (.trainEdge e out) := of_none rfl

theorem leapGuardExpiry (e : Elapsed) : Statement (.leapGuardExpiry e) := of_none rfl

theorem rawChange (e : Elapsed) (input : Fin 8) (level : Bool) : Statement (.rawChange e input level) := of_none rfl

theorem filteredEdge (e : Elapsed) (input : Fin 8) : Statement (.filteredEdge e input) := of_none rfl

theorem readTime (e : Elapsed) : Statement (.readTime e) := by
  intro _ bytes h
  cases h
  simp [transactionIncomplete, argumentLength]

theorem readStatus (e : Elapsed) : Statement (.readStatus e) := by
  intro _ bytes h
  cases h
  simp [transactionIncomplete, argumentLength]

theorem readRound (e : Elapsed) : Statement (.readRound e) := by
  intro _ bytes h
  cases h
  simp [transactionIncomplete, argumentLength]

theorem readPeer (e : Elapsed) (id : Byte) : Statement (.readPeer e id) := by
  intro _ bytes h
  cases h
  simp [transactionIncomplete, argumentLength]

theorem readCapture (e : Elapsed) : Statement (.readCapture e) := by
  intro _ bytes h
  cases h
  simp [transactionIncomplete, argumentLength]

theorem loadConfig (e : Elapsed) (record : List Byte) : Statement (.loadConfig e record) := by
  intro w bytes h
  cases h
  simp only [WellFormed, decide_eq_true_eq] at w
  simp [transactionIncomplete, argumentLength, w]

theorem start (e : Elapsed) : Statement (.start e) := by
  intro _ bytes h
  cases h
  simp [transactionIncomplete, argumentLength]

theorem restart (e : Elapsed) : Statement (.restart e) := by
  intro _ bytes h
  cases h
  simp [transactionIncomplete, argumentLength]

theorem clear (e : Elapsed) (conditions : BitVec 32) (slots : BitVec 16) : Statement (.clear e conditions slots) := by
  intro _ bytes h
  cases h
  simp [transactionIncomplete, argumentLength, bytes4, bytes2]

theorem anchorTime (e : Elapsed) (seconds : BitVec 40) (utcOffset : BitVec 16) (flags : Byte) : Statement (.anchorTime e seconds utcOffset flags) := by
  intro _ bytes h
  cases h
  simp [transactionIncomplete, argumentLength, bytes2, bytes5]

theorem unknownCommand (e : Window) (code : Byte) : Statement (.unknownCommand e code) := by
  intro w bytes h
  cases h
  simp only [WellFormed, Option.isNone_iff_eq_none] at w
  simp [transactionIncomplete, w]

theorem transactionCutShort (e : Window) (sent : List Byte) : Statement (.transactionCutShort e sent) := by
  intro w bytes h
  cases h
  simpa [WellFormed, Instr.window] using w

theorem argumentWindowOverrun (e : Window) (sent : List Byte) : Statement (.argumentWindowOverrun e sent) := of_none rfl

end Sys2Proof.Laws.TransactionForm
end

