-- ==== Sys2Proof/Laws/Steps.lean ====
section
/-! SUPPORT. What a STEP and the entry into FAULT do to the whole part, field by field, and the cases of what they call. -/

namespace Sys2Proof.Machine

/-! ## A STEP (R13) -/

variable (s : State) (c : Int)

@[simp] theorem State.takeStep_pending : (s.takeStep c).pending = s.pending := by
  simp [State.takeStep, State.jump, State.outputsOnStep, State.codeOnStep]
@[simp] theorem State.takeStep_idleCount : (s.takeStep c).idleCount = s.idleCount := by
  simp [State.takeStep, State.jump, State.outputsOnStep, State.codeOnStep]
@[simp] theorem State.takeStep_pins : (s.takeStep c).pins = s.pins := by
  simp [State.takeStep, State.jump, State.outputsOnStep, State.codeOnStep]
@[simp] theorem State.takeStep_clock : (s.takeStep c).clock = (s.jump c).clock := by
  simp [State.takeStep, State.jump, State.outputsOnStep, State.codeOnStep]
@[simp] theorem State.takeStep_monitor : (s.takeStep c).monitor = s.monitor := by
  simp [State.takeStep, State.jump, State.outputsOnStep, State.codeOnStep]
@[simp] theorem State.takeStep_ports : (s.takeStep c).ports = s.ports.map LinkPort.invalidate := by
  simp [State.takeStep, State.jump, State.outputsOnStep, State.codeOnStep]
@[simp] theorem State.takeStep_slots :
    (s.takeStep c).slots = vmap (fun x => x.onStep s.config s.steer.nodeState c (s.clock.reading.plus c)) s.slots := by
  simp [State.takeStep, State.jump, State.outputsOnStep, State.codeOnStep]
@[simp] theorem State.takeStep_published : (s.takeStep c).published = s.published := by
  simp [State.takeStep, State.jump, State.outputsOnStep, State.codeOnStep]
@[simp] theorem State.takeStep_round : (s.takeStep c).round = s.round.overtake := by
  simp [State.takeStep, State.jump, State.outputsOnStep, State.codeOnStep]
@[simp] theorem State.takeStep_steer : (s.takeStep c).steer = s.steer.onStep s.clock.reading c := by
  simp [State.takeStep, State.jump, State.outputsOnStep, State.codeOnStep]
@[simp] theorem State.takeStep_ref : (s.takeStep c).ref = s.ref.onStep c := by
  simp [State.takeStep, State.jump, State.outputsOnStep, State.codeOnStep]
@[simp] theorem State.takeStep_capture : (s.takeStep c).capture = s.capture := by
  simp [State.takeStep, State.jump, State.outputsOnStep, State.codeOnStep]
@[simp] theorem State.takeStep_cond : (s.takeStep c).cond = (s.report .stepped).cond := by
  simp [State.takeStep, State.jump, State.outputsOnStep, State.codeOnStep]
  rfl
@[simp] theorem State.takeStep_port : (s.takeStep c).port = s.port := by
  simp [State.takeStep, State.jump, State.outputsOnStep, State.codeOnStep]

/-- The leap and the leap guard under a STEP (R125, R127). -/
theorem Steering.onStep_cases (x : Steering) (t : Timestamp) (c : Int) :
    (0 < c ∧ x.utc.leapJumped t c = true ∧
      x.onStep t c = { x with utc := x.utc.leap, leapGuard := some ((t.plus c).plus (2 * Config.qnsPerSecond : Nat)) }) ∨
    (¬(0 < c ∧ x.utc.leapJumped t c = true) ∧
      x.onStep t c = { x with leapGuard := x.leapGuard.map fun g => g.plus c }) := by
  by_cases h : 0 < c ∧ x.utc.leapJumped t c = true
  · exact .inl ⟨h.1, h.2, if_pos h⟩
  · exact .inr ⟨h, if_neg h⟩

@[simp] theorem Steering.onStep_nodeState (x : Steering) (t : Timestamp) (c : Int) : (x.onStep t c).nodeState = x.nodeState := by
  rcases x.onStep_cases t c with ⟨-, -, h⟩ | ⟨-, h⟩ <;> rw [h]

/-- The correction total takes the qns put into the reading while a last pulse stamp is held (R116). -/
theorem RefUnit.correct_cases (r : RefUnit) (q : Int) :
    (r.lastPulse = none ∧ r.correct q = r) ∨
      (r.lastPulse ≠ none ∧ r.correct q = { r with correction := int64 (r.correction + q) }) := by
  unfold RefUnit.correct
  cases h : r.lastPulse with
  | none => exact .inl ⟨rfl, rfl⟩
  | some p => exact .inr ⟨by simp, rfl⟩

theorem int64_of_mem {x : Int} (h1 : -9223372036854775808 ≤ x) (h2 : x ≤ 9223372036854775807) : int64 x = x :=
  if_pos ⟨h1, h2⟩

/-! ## The time code line (R147, R153) -/

/-- A frame holds the line high only in its own second. -/
theorem CodeFrame.highAt_iff (f : CodeFrame) (t : Timestamp) :
    f.highAt t = true ↔ f.second = BitVec.ofNat 40 t.seconds ∧ t.fraction % slotQns < f.highTimeAt t.fraction := by
  simp [CodeFrame.highAt, CodeFrame.levelAt]

/-! ## The entry into FAULT (R22) -/

@[simp] theorem State.enterFault_pending : s.enterFault.pending = s.pending := by
  simp only [State.enterFault, State.setRefUnit]; split <;> simp
@[simp] theorem State.enterFault_idleCount : s.enterFault.idleCount = s.idleCount := by
  simp only [State.enterFault, State.setRefUnit]; split <;> simp
@[simp] theorem State.enterFault_pins : s.enterFault.pins = s.pins := by
  simp only [State.enterFault, State.setRefUnit]; split <;> simp
@[simp] theorem State.enterFault_clock : s.enterFault.clock = s.clock.onFault := by
  simp only [State.enterFault, State.setRefUnit]; split <;> simp
@[simp] theorem State.enterFault_monitor :
    s.enterFault.monitor = { s.monitor with topDue := s.monitor.topDue && decide (s.monitor.phase = 0) } := by
  simp only [State.enterFault, State.setRefUnit]; split <;> simp <;> congr
@[simp] theorem State.enterFault_ports : s.enterFault.ports = s.ports.map LinkPort.cutShort := by
  simp only [State.enterFault, State.setRefUnit]; split <;> simp
@[simp] theorem State.enterFault_slots : s.enterFault.slots = s.slots := by
  simp only [State.enterFault, State.setRefUnit]; split <;> simp
@[simp] theorem State.enterFault_published : s.enterFault.published = s.published := by
  simp only [State.enterFault, State.setRefUnit]; split <;> simp
@[simp] theorem State.enterFault_steer : s.enterFault.steer = (s.setRefUnit s.ref.onFault).steer.onFault := by
  simp only [State.enterFault, State.setRefUnit]; split <;> simp
@[simp] theorem State.enterFault_round : s.enterFault.round = { s.round with flight := none, working := none } := by
  simp only [State.enterFault, State.setRefUnit]; split <;> simp
@[simp] theorem State.enterFault_ref : s.enterFault.ref = s.ref.onFault := by
  simp only [State.enterFault, State.setRefUnit]; split <;> simp
@[simp] theorem State.enterFault_outs : s.enterFault.outs = s.outs.onFault := by
  simp only [State.enterFault, State.setRefUnit]; split <;> simp
@[simp] theorem State.enterFault_code : s.enterFault.code = { s.code with pendingFrame := none, current := none } := by
  simp only [State.enterFault, State.setRefUnit]; split <;> simp
@[simp] theorem State.enterFault_capture : s.enterFault.capture = s.capture := by
  simp only [State.enterFault, State.setRefUnit]; split <;> simp
@[simp] theorem State.enterFault_cond : s.enterFault.cond = { s.cond with fault := true } := by
  simp only [State.enterFault, State.setRefUnit]; split <;> simp
@[simp] theorem State.enterFault_port : s.enterFault.port = s.port := by
  simp only [State.enterFault, State.setRefUnit]; split <;> simp

/-! ## What an argument window held back (R169) -/

/-- A held back event is the command of its name. -/
theorem exec_toInstr (h : HeldEvent) (s : State) : exec h.toInstr s = execHeld h s := by cases h <;> rfl

/-- A held back event answers a next state. -/
theorem execHeld_next (h : HeldEvent) (s : State) : ∃ t, execHeld h s = .next t := by
  cases h <;> first
    | exact ⟨_, rfl⟩
    | (simp only [execHeld, execTransmitInstant, execRoundClose, execRoundCompletion, execSlewEnd, execAnchorTimeExpiry,
        execTopOfSecond, execHalfSecond, execPulseEnd, execTrainEdge, execLeapGuardExpiry]
       split <;> exact ⟨_, rfl⟩)

/-- The held back events can all be taken. -/
theorem exists_eventsTaken (held : List HeldEvent) (s : State) : ∃ v, EventsTaken held s v := by
  induction held generalizing s with
  | nil => exact ⟨s, rfl⟩
  | cons x rest ih =>
    obtain ⟨t, ht⟩ := execHeld_next x s
    obtain ⟨v, hv⟩ := ih t
    exact ⟨v, t, by rw [exec_toInstr, ht], hv⟩

/-- What follows the held back events runs on the state they leave. -/
theorem takeHeld_of_taken {held : List HeldEvent} {s v : State} (h : EventsTaken held s v) (follow : State → State) :
    takeHeld held s follow = .next (follow v) := by
  induction held generalizing s with
  | nil => rw [show v = s from h]; rfl
  | cons x rest ih =>
    obtain ⟨w, hx, hr⟩ := h
    rw [exec_toInstr] at hx
    simp only [takeHeld, hx]
    exact ih hr

end Sys2Proof.Machine
end

