-- ==== Sys2Proof/Tests/Slice0.lean ====
section
/-! SUPPORT. Tests: the well-formedness smoke tests, the spec's worked examples, and small states that meet the hypotheses
of the statements. Expected values come from the tables named in each docstring. -/

namespace Sys2Proof.Tests

open Sys2Proof.Machine

/-! ## Fixtures -/

/-- No time passes. -/
def zero : Elapsed := { main := 0, monitor := 0 }

/-- No time passes, and no event falls inside the argument window. -/
def alone : Window := { held := [], rest := zero }

/-- The state that a command answers. -/
def after (o : Host.Outcome State Fault Refusal) (s : State) : State :=
  match o with
  | .next t => t
  | .fault _ | .refused _ => s

/-- One command. -/
def take (c : Instr) (s : State) : State := after (exec c s) s

/-- A record of 86 bytes, laid out by Table 10-4: N 12, f 1, T_r 250 ms, C 2 ms, REF enabled, anchor class 1, G 4, G_a 2,
filter 4 us, the keys of Table 2-6; OUT0 a 4,800 train of floor 6 paired with OUT1, a 100 ms pulse of floor 7; OUT2 in CODE
mode and OUT3 in LAMP mode; EV2 RISE and EV3 FALL in group 0, EV5 BOTH. -/
def record : List Byte :=
  [0x01#8, 0x80#8, 0xC2#8, 0x00#8, 0x00#8, 0x20#8, 0x88#8, 0xF7#8, 7#8, 12#8, 1#8, 0x59#8, 0x42#8, 4#8]
    ++ beBytes 4 10000 ++ beBytes 4 40000 ++ beBytes 4 100 ++ beBytes 4 500 ++ beBytes 4 400 ++ beBytes 2 100
    ++ beBytes 2 200 ++ beBytes 2 4 ++ beBytes 4 0x80000001 ++ beBytes 4 1 ++ beBytes 4 3 ++ beBytes 4 0x100 ++ beBytes 2 0
    ++ [0x83#8, 0x24#8, 0x05#8, 0x09#8]
    ++ [0x56#8, 12#8] ++ beBytes 2 1 ++ [0x27#8, 0#8] ++ beBytes 2 100 ++ [0x8A#8, 0#8] ++ beBytes 2 1
    ++ [0x60#8, 0#8] ++ beBytes 2 1
    ++ [0#8, 0#8, 0x05#8, 0x09#8, 0#8, 0x0C#8, 0#8, 0#8]

/-- The settings of `record`. -/
def cfg : ConfigRecord := ConfigRecord.ofBytes record

/-- A part in CONFIG that holds `record` and a VALID strap id. -/
def ready (id : BitVec 4) : State :=
  (State.reset.setSteer { Steering.reset with nodeState := .config }).setPort
    { CommandPort.reset with record := some cfg, strapId := id, strapValid := .valid }

/-- A part just started. -/
def started (id : BitVec 4) : State := take (.start zero) (ready id)

/-- A reading of a number of seconds and qns. -/
def at_ (seconds qns : Nat) : Timestamp := Timestamp.ofInt ((seconds * 4000000000 + qns : Nat) : Int)

/-- A started part put into a node state with a class at a reading, with the instants after it named and both links up. -/
def placed (id : BitVec 4) (st : NodeState) (cls : Nat) (t : Timestamp) : State :=
  let s := started id
  let s1 := s.setSteer { s.steer with nodeState := st, accuracyClass := cls, epochKnown := true }
  let s2 := s1.setClock { s1.clock with reading := t, named := s1.namedFrom t }
  s2.setPorts (s2.ports.map fun p => { p with up := true })

/-! ## Well-formedness -/

/-- R168: a LOAD_CONFIG without its 86th byte is no LOAD_CONFIG. -/
theorem test_wellFormed_loadConfig : WellFormed (.loadConfig zero (record.take 85)) = false := by decide

/-- R169: a code of Table 10-2 is no unknown command. -/
theorem test_wellFormed_unknown : WellFormed (.unknownCommand alone 0x13#8) = false := by decide

/-- R169: a transaction with all its bytes is not cut short. -/
theorem test_wellFormed_cutShort : WellFormed (.transactionCutShort alone [0x04#8, 0#8]) = false := by decide

/-- R169: nor does its window run over. -/
theorem test_wellFormed_overrun : WellFormed (.argumentWindowOverrun alone [0x11#8]) = false := by decide

/-! ## Decoding (Table 10-2) -/

/-- READ-PEER of slot 9. -/
theorem test_decode_readPeer : decodeTransaction alone [0x04#8, 9#8] = .readPeer zero 9#8 := by decide

/-- CLEAR of all sixteen conditions and slot 9. -/
theorem test_decode_clear :
    decodeTransaction alone [0x13#8, 0#8, 0#8, 0xFF#8, 0xFF#8, 0x02#8, 0x00#8] = .clear zero 0x0000FFFF#32 0x0200#16 := by
  decide

/-- ANCHOR-TIME of Table 6-3: seconds 820,540,000, offset +37. -/
theorem test_decode_anchorTime :
    decodeTransaction alone [0x14#8, 0x00#8, 0x30#8, 0xE8#8, 0x72#8, 0x60#8, 0x00#8, 0x25#8, 0x00#8] =
      .anchorTime zero 820540000#40 37#16 0#8 := by decide

/-- A transaction cut short. -/
theorem test_decode_cutShort : decodeTransaction alone [0x14#8, 0#8] = .transactionCutShort alone [0x14#8, 0#8] := by decide

/-- The opcode table spells no command. -/
theorem test_decode_word : decodeTableWord 8 1 = none := by decide

/-! ## Arithmetic (R1, R2, R4) -/

/-- R1: 4062.5 becomes 4062, −32.5 becomes −32, −33.5 becomes −34, 9,001 / 2 becomes 4,500. -/
theorem test_halfEven :
    halfEven 8125 2 = 4062 ∧ halfEven (-65) 2 = -32 ∧ halfEven (-67) 2 = -34 ∧ halfEven 9001 2 = 4500 := by decide

/-- R4: a node at 0.4 s that steps by −0.9 s reads 1,099,511,627,775.5, and stays 0.9 s behind. -/
theorem test_wrap :
    ((at_ 0 1600000000).plus (-3600000000)) = at_ 1099511627775 2000000000 ∧
      ((at_ 0 1600000000).plus (-3600000000)).diff (at_ 0 1600000000) = -3600000000 := by decide

/-- Table 4-5: classes of 0, 1, 15, 16, 16,383 and 16,384 ns. -/
theorem test_classes : [0, 1, 15, 16, 16383, 16384, 99999].map accuracyClassOf = [0, 1, 4, 5, 14, 15, 15] := by decide

/-! ## The Node Clock -/

/-- Table 1-2: a slew of 65 qns at T_r 250 ms has the term 65,000 ru and ends 250 ms on. -/
theorem test_slew_record :
    newSlew cfg 65 (at_ 1200 9001640) =
      some { amount := 65, delivered := 0, residue := 0, term := 65000, finish := at_ 1200 1009001640 } := by decide

/-- Table 1-2: half the interval, 12,500,000 cycles, delivers 32 whole qns. -/
theorem test_slew_halfway :
    (advanceSlew (newSlew cfg 65 (at_ 1200 9001640)) 12500000).2 = 32 := by decide

/-- R8: the clamp and the at-limit indication. -/
theorem test_rate_clamp : rateAfter 99999999 4062 = 100000000 ∧ atLimit (rateAfter 99999999 4062) = true ∧
    rateAfter (-7310000) 4062 = -7305938 ∧ atLimit (rateAfter (-7310000) 4062) = false := by decide

/-- R3: a cycle of the main oscillator is 40 qns. -/
theorem test_cycles : (take (.readTime ⟨25, 0⟩) (started 2#4)).clock.reading = at_ 0 1000 := by decide

/-! ## The check word (R35) -/

/-- Table 2-5 and Table 2-6. -/
theorem test_check_word :
    checkWordOf 0 0 0 0 [1#32, 2#32] = 0x22000000#32 ∧
      checkWordOf 0x80000001#32 1#32 3#32 0x100#32 [1#32, 2#32] = 0x01060100#32 := by decide

/-! ## The Receive Filter: Table 2-8 -/

/-- The judgements of Table 2-8, in own time from the named boundary. -/
theorem test_judgements :
    judgeWindow cfg (fromNamedBoundary cfg 4802#32 (at_ 1200 999200000)) = .misnumberedBefore ∧
      judgeWindow cfg (fromNamedBoundary cfg 4801#32 (at_ 1200 1000560081)) = .inTime ∧
      judgeWindow cfg (fromNamedBoundary cfg 4801#32 (at_ 1200 1010000000)) = .late ∧
      judgeWindow cfg (fromNamedBoundary cfg 4801#32 (at_ 1200 991999999)) = .early ∧
      judgeWindow cfg (fromNamedBoundary cfg 4801#32 (at_ 1200 992000000)) = .inTime ∧
      judgeWindow cfg (fromNamedBoundary cfg 4801#32 (at_ 1200 1008000000)) = .late := by decide

/-! ## The Peer Table: Section 3.6.1 -/

/-- Status fields of a TRACK sender with epoch known, class 4 and UTC offset +37. -/
def trackStatus : PeerStatus :=
  { state := .track, anchored := false, anchorClass := 0#3, accuracyClass := 4#4, epochKnown := true, utcOffset := 37#16,
    leapPending := false, leapDeletion := false }

/-- The port-A copy of Section 3.6.1. -/
def copyA : Copy :=
  { attributed := 4801#32, kind := .named, roundField := 4801#32, ingress := at_ 1200 1001159780, ingressStep := 0#8,
    tx := { seconds := 1200#40, nanos := 250288960#30, quarter := 0#2 }, status := trackStatus, stepped := false,
    ownEcho := some { peer := 5#4, round16 := 0#4, nanos := 161975#30, quarter := 0#2, seconds := 176#8 },
    outcome := .noEcho, checked := false, congested := false, estimate := none, bounded := false }

/-- The port-B copy of Section 3.6.1. -/
def copyB : Copy :=
  { copyA with
    ingress := at_ 1200 1001172740, tx := { seconds := 1200#40, nanos := 250289000#30, quarter := 0#2 }
    ownEcho := some { peer := 5#4, round16 := 0#4, nanos := 162215#30, quarter := 0#2, seconds := 176#8 } }

/-- A window of samples of round 4,800. -/
def window (l : List Nat) : List Sample := l.map fun v => { round := 4800#32, value := v, age := some 0, closed := true }

/-- The history entry of node 5's round-4,800 tick that left at a fraction of second 1200. -/
def sentAt (qns : Nat) : List HistoryEntry := [{ round := 4800#32, tx := at_ 1200 qns, step := 0#8, valid := true }]

/-- Copy A: sample 4,000, D_A 4,000, estimate +60, checked and not congested. -/
theorem test_copyA :
    let r := copyA.process cfg .track (sentAt 643840) (window [4020, 4000, 4080, 4012])
    r.1.outcome = .added ∧ r.1.checked = true ∧ r.1.congested = false ∧ r.1.estimate = some 60 ∧
      r.2.map (·.value) = [4020, 4000, 4080, 4012, 4000] := by decide

/-- Copy B: sample 10,800, D_B 4,800, congested, estimate −11,940. -/
theorem test_copyB :
    let r := copyB.process cfg .track (sentAt 644000) (window [4816, 4800, 4808])
    r.1.congested = true ∧ r.1.estimate = some (-11940) ∧ filteredDelay r.2 = some 4800 := by decide

/-- R56: under a step an estimate keeps the offset bound exactly, also where the difference is no number of 64 bits. -/
theorem test_copy_onStep :
    let f (v c : Int) := ({ copyA with estimate := some v }.onStep cfg .track c (at_ 1200 0)).estimate
    f 4194369 65 = some 4194304 ∧ f 4194370 65 = none ∧ f (-4194304) (-1) = some (-4194303) ∧
      f (-9223372036854775808) 9223372036854775807 = none := by decide

/-- A slot that holds both copies, just processed. -/
def slot9 : Slot :=
  ({ Slot.reset with
      liveness := .active, windows := ⟨window [4020, 4000, 4080, 4012], window [4816, 4800, 4808]⟩ }.accept cfg .track
    (sentAt 643840) .a copyA).accept cfg .track (sentAt 644000) .b copyB

/-- Table 3-4: the lane at the close is +60 qns from port A. -/
theorem test_lane :
    ((slot9.close 4801#32).lane.map fun l => (l.value, l.port)) = some (60, .a) ∧
      (slot9.close 4801#32).skewed cfg = false := by decide

/-! ## The Round Engine: Tables 4-1 to 4-3 -/

/-- An ACTIVE slot with a lane from a sender of a state and an anchor class. -/
def laneSlot (v : Int) (st : SenderState) (c : BitVec 3) : Slot :=
  { Slot.reset with
    liveness := .active
    lane := some { value := v, port := .a, status := { trackStatus with state := st, anchorClass := c } } }

/-- The slots at a close, by id. -/
def slotsOf (l : List (Fin 16 × Slot)) : Vector Slot 16 :=
  vtable 16 fun i => ((l.find? fun p => p.1 = i).map (·.2)).getD Slot.reset

/-- A close in flight of a TRACK node with its epoch known. -/
def flight (slots : Vector Slot 16) : Flight :=
  { round := 4801#32, slots := slots, nodeState := .track, epochKnown := true, utc := ⟨37, false, false⟩,
    refSelected := false, refOffset := none, stepCount := 0#8, overtaken := false }

/-- The lanes of Table 4-1. -/
def table41 : Vector Slot 16 :=
  slotsOf [(2, laneSlot 120 .track 0), (3, laneSlot (-40) .track 0), (5, laneSlot 60 .track 0),
    (9, laneSlot 9000 .track 0), (11, laneSlot 80 .track 0)]

/-- Table 4-1: c is 65, source ENSEMBLE, nodes 3 and 9 trimmed, estimate 15 ns. -/
theorem test_table41 :
    let r := (flight table41).result cfg 1 0
    r.correction = some 65 ∧ r.source = .ensemble ∧ r.trimmed.map (·.id) = [3, 9] ∧ r.estimate = some 15 ∧
      accuracyClassOf 15 = 4 := by decide

/-- Table 4-2: the target 230 is accepted, the estimate is 16 ns. -/
theorem test_table42 :
    let r := (flight (slotsOf [(0, laneSlot 200 .anchored 1), (3, laneSlot 260 .anchored 1), (4, laneSlot 230 .anchored 1),
      (6, laneSlot 40 .anchored 2), (7, laneSlot (-20) .track 0), (8, laneSlot 10 .track 0)])).result cfg 5 0
    r.aggregate = some 96 ∧ r.correction = some 230 ∧ r.source = .anchors ∧ r.estimate = some 16 := by decide

/-- Table 4-3: the target 5,000 is refused, c is 8, the estimate is 5 ns. -/
theorem test_table43 :
    let r := (flight (slotsOf [(0, laneSlot 5000 .anchored 1), (3, laneSlot 30 .track 0), (4, laneSlot (-10) .track 0),
      (7, laneSlot (-20) .track 0), (8, laneSlot 10 .track 0)])).result cfg 5 0
    r.correction = some 8 ∧ r.source = .ensemble ∧ r.split = true ∧ r.estimate = some 5 := by decide

/-- Section 4.11: at the sixteenth quiet close a LISTEN node uses the cold set, and its correction is 2,000,000,000. -/
theorem test_cold :
    let f := { flight (slotsOf [(1, laneSlot 3200000000 .listen 0), (2, laneSlot 2000000000 .listen 0),
      (3, laneSlot (-400000000) .listen 0)]) with nodeState := .listen, epochKnown := false }
    (f.result cfg 0 16).source = .cold ∧ (f.result cfg 0 16).correction = some 2000000000 ∧
      (f.result cfg 0 15).starved = true := by decide

/-! ## The Steering Controller -/

/-- Section 5.3: the rate steps of ±65 qns with gain 4. -/
theorem test_rateStep : rateStepOf cfg 4 65 = 4062 ∧ rateStepOf cfg 4 (-65) = -4062 := by decide

/-- The part of Table 4-7 with its close in flight. -/
def inFlight : State :=
  let s := (placed 1#4 .track 4 (at_ 1200 1008600000)).setSlots table41
  s.setRound { s.round with flight := some (flight table41) }

/-- Table 4-7: the completion orders SLEW 65 with the rate step +4,062 and publishes E 15 and class 4. -/
theorem test_completion :
    let t := take (.roundCompletion zero) inFlight
    t.round.published.action = .slew 65 ∧ t.round.published.rateStep = some 4062 ∧ t.steer.estimate = 15 ∧
      t.steer.accuracyClass = 4 ∧ t.clock.rate = 4062 ∧ t.round.flight = none := by decide

/-- Table 3-5: slot 3 is trimmed and BEHIND, slot 9 is AHEAD. -/
theorem test_completion_slots :
    let t := take (.roundCompletion zero) inFlight
    t.slots[3].trims = 1 ∧ t.slots[3].verdict = ⟨false, true, false, true⟩ ∧
      t.slots[9].verdict = ⟨true, false, false, true⟩ ∧ t.slots[2].verdict = ⟨false, false, true, false⟩ := by decide

/-- Table 5-7: holdover begins at the entry with 15 + 4 ns, and the fifth starved round gives 35 ns and class 6. -/
theorem test_holdover :
    let c := { cfg with growth := 4 }
    let r : RoundResult := { (flight (slotsOf [])).result cfg 1 0 with correction := none, estimate := none }
    let x : Steering := { Steering.reset with nodeState := .track, estimate := 15, accuracyClass := 4 }
    let next (y : Steering) : Steering := (y.decideRound c .absent r none).steer.finish y c r
    (next x).nodeState = .holdover ∧ (next x).estimate = 19 ∧ (next x).accuracyClass = 5 ∧
      (next (next (next (next (next x))))).estimate = 35 ∧ (next (next (next (next (next x))))).accuracyClass = 6 := by
  decide

/-! ## The Reference Unit -/

/-- Section 6.3: the offsets of 1200.999999750'0 and 1201.000000120'2. -/
theorem test_offset : refOffsetOf (at_ 1200 3999999000) = 1000 ∧ refOffsetOf (at_ 1201 482) = -482 := by decide

/-- The part of Table 6-2 after its fourth pulse. -/
def qualifying : State :=
  let s := placed 1#4 .track 4 (at_ 505 16)
  s.setRef { RefUnit.reset with state := .qualifying, qualCount := 3, lastPulse := some (at_ 504 4) }

/-- Table 6-2: the fifth pulse makes the reference VALID with the offset −16, fresh. -/
theorem test_refPulse :
    let t := take (.refPulse zero) qualifying
    t.ref.state = .valid ∧ t.ref.lastOffset = some (-16) ∧ t.ref.fresh = true ∧ t.ref.qualCount = 0 := by decide

/-- The part of Table 6-2 at a miss instant, with a number of misses behind it. -/
def missing (t : Timestamp) (misses : Nat) : State :=
  let s := placed 1#4 .track 4 t
  s.setRef { RefUnit.reset with state := .valid, missCount := misses, lastPulse := some (at_ 506 8), lastOffset := some (-8) }

/-- Table 6-2: the first miss leaves VALID with a miss count of 1; the second loses the reference. -/
theorem test_miss :
    (take (.missInstant zero) (missing (at_ 507 400008) 0)).ref.missCount = 1 ∧
      (take (.missInstant zero) (missing (at_ 508 400008) 1)).ref.state = .absent ∧
      (take (.missInstant zero) (missing (at_ 508 400008) 1)).cond.flags = 0x0400#16 := by decide

/-- Table 6-3: the part at the pulse 7301.999999996'0 with its epoch unknown. -/
def anchoring : State :=
  let s := placed 1#4 .track 4 (at_ 7301 3999999984)
  let s1 := s.setSteer { s.steer with epochKnown := false }
  s1.setRef { RefUnit.reset with
    state := .valid, lastPulse := some (at_ 7300 3999999984),
    pendingTime := some { seconds := 820540000#40, utc := ⟨37, false, false⟩, expiry := at_ 7303 1600000000 } }

/-- Table 6-3: the anchor time steps the reading to 820,539,999.999999996'0 and makes the epoch known. -/
theorem test_anchor :
    let t := take (.refPulse zero) anchoring
    t.clock.reading = at_ 820539999 3999999984 ∧ t.steer.epochKnown = true ∧ t.steer.utc.offset = 37 ∧
      t.ref.lastOffset = some 16 ∧ t.ref.pendingTime = none ∧ t.clock.stepCount = 1#8 ∧ t.cond.flags = 0x0004#16 := by
  decide

/-! ## The calendar (Section 6.7.1) and the code frame (Table 8-3) -/

/-- Second 762,609,637 with offset +37 is 12:00:00 on day 61 of 2024. -/
theorem test_calendar :
    (⟨37, false, false⟩ : UtcValues).present 762609637 = { second := 0, minute := 0, hour := 12, day := 61, year := 24 } := by
  decide

/-- Table 6-4, insertion: 820,540,837 is 23:59:60, and the leap falls at 820,540,838. -/
theorem test_insertion :
    let u : UtcValues := ⟨37, true, false⟩
    u.present 820540837 = { second := 60, minute := 59, hour := 23, day := 365, year := 25 } ∧
      u.atTop 820540837 = u ∧ u.atTop 820540838 = ⟨38, false, false⟩ := by decide

/-- R127: a step over the top of 820,540,838 carries out the insertion, and one that stops short of it does not. -/
theorem test_leapJumped :
    let u : UtcValues := ⟨37, true, false⟩
    u.leapJumped (at_ 820540837 3999999999) 1 = true ∧ u.leapJumped (at_ 820540837 3999999998) 1 = false ∧
      u.leapJumped (at_ 820540838 0) 4000000000 = false := by decide

/-- Table 6-4, deletion: the leap falls at 820,540,836, which is the first second of 2026. -/
theorem test_deletion :
    let u : UtcValues := ⟨37, true, true⟩
    u.present 820540835 = { second := 58, minute := 59, hour := 23, day := 365, year := 25 } ∧
      u.atTop 820540836 = ⟨36, false, true⟩ ∧
      (u.atTop 820540836).present 820540836 = { second := 0, minute := 0, hour := 0, day := 1, year := 26 } := by decide

/-- Table 8-3: twelve ONEs among positions 1 to 45, a check count of 4, and 50 symbols. -/
theorem test_frame :
    let f := frameSymbols ((⟨37, false, false⟩ : UtcValues).present 762609637) 4 .track ⟨37, false, false⟩ true false
    f.length = 50 ∧ f.count .mark = 3 ∧ f.count .one = 13 ∧
      (f.drop 13).take 14 = [.zero, .zero, .one, .one, .zero, .one, .zero, .one, .one, .one, .one, .zero, .zero, .zero] ∧
      f.drop 46 = [.zero, .zero, .one, .mark] := by decide

/-- Table 8-4: the frame composed at 820,540,837.5 carries offset +38 and no leap pending. -/
theorem test_halfSecond :
    let s := placed 1#4 .track 4 (at_ 820540837 2000000000)
    let s1 := (s.setSteer { s.steer with utc := ⟨37, true, false⟩ }).setClock
      { s.clock with named := { s.clock.named with half := some (at_ 820540837 2000000000) } }
    (take (.halfSecond zero) s1).code.pendingFrame =
      some { second := 820540838#40, step := 0#8,
             symbols := frameSymbols { second := 0, minute := 0, hour := 0, day := 1, year := 26 } 4 .track
               ⟨38, false, false⟩ true false } := by decide

/-! ## The outputs: Tables 7-3 and 7-7, Section 7.8 -/

/-- Table 7-3: edges of a 4,800 train. -/
theorem test_train_edges :
    [0, 1, 2, 3, 4799].map (trainRise 4800) = [0, 833333, 1666666, 2500000, 3999166666] ∧
      [0, 1, 2, 3, 4799].map (trainFall 4800) = [416666, 1250000, 2083333, 2916666, 3999583333] := by decide

/-- A part whose first pair is in a phase, at a top of second. -/
def pairAt (cls : Nat) (p : PairState) (second : Nat) : State :=
  let s := placed 1#4 .track cls (at_ second 0)
  (s.setOuts { s.outs with first := p }).setClock
    { s.clock with named := { s.clock.named with top := some (at_ second 0) } }

/-- Table 7-7: the top of 5001 gives the marker alone, the top of 5002 marker and train together. -/
theorem test_pair_start :
    let t := take (.topOfSecond zero) (pairAt 4 { PairState.reset with phase := .armed } 5001)
    let t2 := take (.topOfSecond zero) (pairAt 4 { PairState.reset with phase := .lead } 5002)
    t.outs.first.phase = .lead ∧ t.outLevel 0 = false ∧ t.outLevel 1 = true ∧
      t2.outs.first.phase = .both ∧ t2.outLevel 0 = true ∧ t2.outLevel 1 = true := by decide

/-- Table 7-7: the closing marker rises at class 7, and with the resume mark the next top gives LEAD. -/
theorem test_pair_close :
    let t := take (.topOfSecond zero) (pairAt 7 { phase := .closing, resume := false, closingTop := none } 5011)
    let t2 := take (.topOfSecond zero) (pairAt 5 { phase := .closing, resume := true, closingTop := some (at_ 5011 0) } 5012)
    t.outs.first.phase = .closing ∧ t.outLevel 1 = true ∧ t.outLevel 0 = false ∧
      t2.outs.first.phase = .lead ∧ t2.outLevel 1 = true ∧ t2.outLevel 0 = false := by decide

/-- R135, R140: a top that finds the marker still high begins no closing marker, and the next top gives it. -/
theorem test_pair_close_high :
    let s := (pairAt 7 { phase := .closing, resume := false, closingTop := none } 5011).modifyChannel 1 fun c =>
      { c with high := true, pulseEnd := some (at_ 5011 40000000) }
    let t := take (.topOfSecond zero) s
    let t2 := take (.topOfSecond ⟨100000000, 0⟩) (take (.pulseEnd ⟨1000000, 0⟩ 1) t)
    t.outs.first.closingTop = none ∧ t.outs.channels[1] = s.outs.channels[1] ∧
      t2.outs.first.closingTop = some (at_ 5012 0) ∧ t2.outLevel 1 = true := by decide

/-- R135: the marker of 100 ms falls at its named end. -/
theorem test_pulseEnd :
    let s := placed 1#4 .track 4 (at_ 5001 400000000)
    let s1 := s.modifyChannel 1 fun c => { c with high := true, pulseEnd := some (at_ 5001 400000000) }
    (s1.outLevel 1, (take (.pulseEnd zero 1) s1).outLevel 1) = (true, false) := by decide

/-- Section 7.6.1: train pulse 2,410 falls at 502.1875 ms, and in BOTH the next edge is the rise of pulse 2,411. -/
theorem test_trainEdge :
    let s := placed 1#4 .track 4 (at_ 5010 2008750000)
    let s1 := (s.setOuts { s.outs with first := { PairState.reset with phase := .both } }).modifyChannel 0 fun c =>
      { c with high := true, edge := some { reading := at_ 5010 2008750000, rising := false, index := 2410 } }
    let t := take (.trainEdge zero 0) s1
    t.outLevel 0 = false ∧ t.outs.channels[0].edge = some { reading := at_ 5010 2009166666, rising := true, index := 2411 } := by
  decide

/-- Section 7.8: the HOLDOVER set {1, 4} is high from 0 to 125 ms and from 250 to 375 ms. -/
theorem test_lamp :
    [0, 499999999, 500000000, 1000000000, 1499999999, 1500000000, 2000000000].map
        (fun p => envelopesHigh 5#4 p 4000000000) = [true, true, false, true, true, false, false] := by decide

/-! ## The Capture Unit: Tables 9-1 and 9-3 -/

/-- A TRACK part whose EV3 stands high, its groups armed. -/
def watching : State :=
  let s := placed 1#4 .track 4 (at_ 5000 493827156)
  s.setCapture { s.capture with
    inputs := s.capture.inputs.set 3 { level := some true, candidate := none }, arm0 := some .armed, arm1 := some .armed }

/-- EV2 after its line has risen and held for a number of cycles of the 400 the filter takes. -/
def ev2Risen (cycles : Nat) : State :=
  take (.filteredEdge ⟨cycles, 0⟩ 2) (take (.rawChange zero 2 true) watching)

/-- Table 9-1: EV2 gives one record, stamped at the raw change, and group 0 is disarmed. -/
theorem test_capture :
    (ev2Risen 400).capture.fifo =
        [{ input := 2, edge := .rise, loss := false,
           snapshot := { stamp := at_ 5000 493827156, step := 0#8, nodeState := .track, accuracyClass := 4 } }] ∧
      (ev2Risen 400).capture.arm0 = some .disarmed ∧ (ev2Risen 400).eventLine = true ∧
      (ev2Risen 399).capture.fifo = [] := by decide

/-- Table 9-1: a line that returns within the filter time leaves no trace. -/
theorem test_rawChange :
    (take (.rawChange ⟨200, 0⟩ 2 false) (take (.rawChange zero 2 true) watching)).capture = watching.capture := by decide

/-- A capture FIFO of a number of records. -/
def filled (n : Nat) : State :=
  let s := watching
  s.setCapture { s.capture with fifo := List.replicate n { input := 5, edge := .rise, snapshot := s.snapshot, loss := false } }

/-- Table 9-3: a capture at a full FIFO is discarded, and the next one stored carries LOSS. -/
theorem test_overflow :
    let t := (filled 32).storeCapture 5 .fall (filled 32).snapshot
    let t2 := (take (.readCapture zero) t).storeCapture 5 .fall (filled 32).snapshot
    t.capture.overflow = 1 ∧ t.capture.lossPending = true ∧ t.cond.flags = 0x1000#16 ∧ t2.capture.fifo.length = 32 ∧
      t2.capture.lossPending = false ∧ (t2.capture.fifo.getLast?.map (·.loss)) = some true := by decide

/-- Table 9-3: an empty read answers EMPTY and sets its three marks. -/
theorem test_readCapture :
    let t := take (.readCapture zero) (filled 0)
    t.port.dataOut = [0x00#8, 0x04#8] ∧ t.capture.lastEmpty = true ∧ t.capture.underrun = true ∧ t.cond.flags = 0x2000#16 ∧
      (take (.readStatus zero) t).capture.underrun = false := by decide

/-! ## Resets, warm-up and FAULT -/

/-- R19: after a power-on reset with a sound oscillator the sixteenth gate ends warm-up at monitor cycle 16,384. -/
theorem test_warmup :
    let s := State.reset.setMonitor { State.reset.monitor with warmCount := 15360, passes := 2 }
    (take (.gateEnd ⟨102400, 1024⟩) s).steer.nodeState = .config ∧
      (take (.gateEnd ⟨102400, 1023⟩) s).steer.nodeState = .warmup := by decide

/-- R21: two equal samples make the strap id valid, two different ones the second, invalid. -/
theorem test_straps :
    let s := (take (.resetPinRelease zero 5#4) (take (.resetPinAssert zero) State.reset))
    (take (.strapSample ⟨0, 1024⟩ 5#4) s).port.strapValid = .valid ∧
      (take (.strapSample ⟨0, 1024⟩ 4#4) s).port.strapId = 4#4 ∧
      (take (.strapSample ⟨0, 1024⟩ 4#4) s).port.strapValid = .invalid ∧
      (take (.strapSample ⟨0, 1023⟩ 5#4) s).port.strapValid = .notSampled := by decide

/-- R22: a gate of no cycles in TRACK is FAULT, which cuts every line and withdraws the closes. -/
theorem test_fault :
    let t := take (.gateEnd ⟨0, 1024⟩) (started 2#4)
    t.steer.nodeState = .fault ∧ t.cond.fault = true ∧ t.alert = true ∧ t.clock.named.close = none ∧ t.outLevel 3 = false := by
  decide

/-- R20: a RESTART keeps the record, and a pin reset empties it. -/
theorem test_restart :
    let t := take (.commandReset zero 2#4) (take (.restart zero) (started 2#4))
    t.monitor.cause = .restart ∧ t.port.record = some cfg ∧ t.steer.nodeState = .warmup ∧
      (take (.resetPinRelease zero 2#4) (take (.resetPinAssert zero) (started 2#4))).port.record = none := by decide

/-! ## LOAD-CONFIG and START -/

/-- R173: a record is taken, and a slew limit of 0 is clamped and counted. -/
theorem test_load :
    let s := (ready 2#4).setPort { (ready 2#4).port with record := none }
    (take (.loadConfig zero record) s).port.record = some cfg ∧
      ((take (.loadConfig zero (record.set 9 40#8)) s).port.dataOut.drop 87) = [0x01#8, 0x01#8] := by decide

/-- R173: an output mode of 7 on OUT2 is refused at byte 70. -/
theorem test_load_refused :
    (take (.loadConfig zero (record.set 70 0xE0#8)) (ready 2#4)).port.dataOut.drop 87 = [0x03#8, 70#8] := by decide

/-- R174: START is refused for a strap id that is not below N. -/
theorem test_start :
    (started 2#4).steer.nodeState = .listen ∧ (started 2#4).port.locked = true ∧
      (take (.start zero) (ready 12#4)).port.dataOut = [0x00#8, 0x03#8] := by decide

/-! ## The link ports -/

/-- A part with both links up, whose tick of round 0 has left on port A. -/
def ticked : State :=
  let s := placed 5#4 .track 4 (at_ 0 640000)
  take (.tickTxComplete ⟨600, 0⟩ .a) (take (.tickEgress ⟨80, 0⟩ .a) (take (.transmitInstant zero) s))

/-- R32, R36: the tick left at the egress stamp, and the history holds it. -/
theorem test_tick :
    ticked.ports.a.history = [{ round := 0#32, tx := at_ 0 643200, step := 0#8, valid := true }] ∧
      ticked.ports.a.sent.length = 64 ∧ ticked.ports.a.counters[0] = 1 ∧ ticked.ports.b.tx.isSome = true := by decide

/-- R27: the part's own frame, returned by the network, is sound and claims the own id. -/
theorem test_clash :
    let t := take (.frameReceive zero .b ticked.ports.a.sent) ticked
    t.ports.b.counters[8] = 1 ∧ t.cond.flags = 0x0080#16 := by decide +kernel

/-- R44: node 9 hears node 5's tick of round 0 in time and accepts it. -/
theorem test_receive :
    let t := take (.frameReceive zero .a ticked.ports.a.sent) (placed 9#4 .track 4 (at_ 0 660000))
    t.ports.a.counters[15] = 1 ∧ t.slots[5].liveness = .heard ∧ t.slots[5].counters[0] = 1 := by decide +kernel

/-- R25: a drop while a tick leaves. -/
theorem test_linkDrop :
    let t := take (.linkDrop zero .b true) ticked
    t.ports.b.up = false ∧ t.ports.b.counters[1] = 1 ∧ t.ports.b.counters[2] = 1 ∧ t.ports.b.counters[3] = 1 ∧
      t.cond.flags = 0x0100#16 := by decide

/-! ## Witnesses: for each statement with hypotheses, states and operands that meet them, clause by clause -/

/-- A part in a node state whose reset pin is asserted. -/
def heldPart : State := take (.resetPinAssert zero) (started 2#4)

theorem witness_StepRunsFrontCommand :
    (State.reset.setPending [Instr.start zero, .restart zero]).pending = Instr.start zero :: [Instr.restart zero] := by decide

theorem witness_ClockAdvanceAdds :
    let k : Clock := { Clock.reset with
      rate := -3, residue := 999999999999
      slew := some { amount := 65, delivered := 0, residue := -7, term := 65000, finish := Timestamp.zero } };
    -1000000000000 < k.residue ∧ k.residue < 1000000000000 ∧
      ∀ w, k.slew = some w → -1000000000000 < w.residue ∧ w.residue < 1000000000000 := by decide

theorem witness_CyclesAdvanceReading :
    ((started 2#4).pins.resetAsserted = false ∧ (started 2#4).steer.nodeState.clocked = true ∧ (started 2#4).clock.slew = none) ∧
      (ready 2#4).steer.nodeState.clocked = false ∧ heldPart.pins.resetAsserted = true := by decide

/-- R17 to R19, R144, R156 at their boundary values: the cycle that wraps the monitor's phase, the one that reaches the warm-up
count of each cause and the one after it, the gate count at 262,143, and a candidate held 399 cycles on. -/
theorem witness_CyclesAdvanceReading_monitor :
    let run (cause : ResetCause) (warm : Nat) (e : Elapsed) : Monitor :=
      let s := ready 2#4
      ((s.setMonitor { s.monitor with cause := cause, phase := 999999, warmCount := warm, gateCount := 262142 }).elapse e).monitor
    (run .restart 255 ⟨1, 1⟩).phase = 0 ∧ (run .restart 255 ⟨1, 1⟩).topDue = true ∧ (run .restart 255 ⟨1, 0⟩).topDue = false ∧
      (run .restart 255 ⟨1, 1⟩).warmCount = 256 ∧ (run .restart 256 ⟨1, 1⟩).warmCount = 256 ∧
      (run .pin 1023 ⟨1, 1⟩).warmCount = 1024 ∧ (run .pin 1024 ⟨1, 1⟩).warmCount = 1024 ∧
      (run .powerOn 16383 ⟨1, 1⟩).warmCount = 16384 ∧ (run .powerOn 16384 ⟨1, 1⟩).warmCount = 16384 ∧
      (run .pin 0 ⟨1, 1⟩).gateCount = 262143 ∧ (run .pin 0 ⟨2, 1⟩).gateCount = 262143 ∧
      (((take (.rawChange zero 2 true) watching).elapse ⟨399, 0⟩).capture.inputs[2].candidate.map (·.held)) = some 399 := by
  decide

theorem witness_PinAssertHolds : State.reset.pins.resetAsserted = false ∧ heldPart.pins.resetAsserted = true := by decide

theorem witness_PinReleaseSetsValues : heldPart.pins.resetAsserted = true ∧ State.reset.pins.resetAsserted = false := by decide

theorem witness_CommandResetSetsValues :
    let s := take (.restart zero) (started 2#4)
    s.pins.resetAsserted = false ∧ s.port.restartArmed = true ∧
      (started 2#4).pins.resetAsserted = false ∧ (started 2#4).port.restartArmed = false := by decide

theorem witness_HeldPartIgnores : heldPart.pins.resetAsserted = true ∧ isReset (.linkUp zero .a) = false := by decide

theorem witness_StrapSampleSetsId :
    let u := State.reset.elapse ⟨0, 16384⟩
    u.pins.resetAsserted = false ∧ u.port.strapValid = .notSampled ∧ u.monitor.cause.warmUpCount ≤ u.monitor.warmCount := by
  decide

/-- A part in a node state at a gate end with a count. -/
def gated (st : NodeState) (count passes : Nat) : State :=
  let s := (started 2#4).setSteer { (started 2#4).steer with nodeState := st }
  s.setMonitor { s.monitor with gatePosition := 1024, gateCount := count, passes := passes, warmCount := 16384 }

theorem witness_GateEndCountsPasses :
    (∀ st ∈ [NodeState.warmup, .config, .track, .fault], ∀ n ∈ [61440, 163840],
      let u := (gated st n 1).elapse zero
      u.pins.resetAsserted = false ∧ 1024 ≤ u.monitor.gatePosition ∧ 61440 ≤ u.monitor.gateCount ∧
        u.monitor.gateCount ≤ 163840) ∧
      (∀ n ∈ [61439, 163841], let u := (gated .warmup n 1).elapse zero
        u.pins.resetAsserted = false ∧ 1024 ≤ u.monitor.gatePosition ∧ u.steer.nodeState.running = false) ∧
      let u := (gated .warmup 61440 1).elapse zero
      u.steer.nodeState = .warmup ∧ u.monitor.cause.warmUpCount ≤ u.monitor.warmCount ∧ min 2 (u.monitor.passes + 1) = 2 := by
  decide

theorem witness_FailingGateEntersFault :
    ∀ n ∈ [61439, 163841], let u := (gated .track n 2).elapse zero
      u.pins.resetAsserted = false ∧ 1024 ≤ u.monitor.gatePosition ∧ u.steer.nodeState.running = true ∧
        ¬(61440 ≤ u.monitor.gateCount ∧ u.monitor.gateCount ≤ 163840) := by decide

theorem witness_MonitorTopLatches :
    ∀ st ∈ [NodeState.config, .fault, .track], let u := (gated st 0 0).elapse ⟨0, 1000000⟩
      u.pins.resetAsserted = false ∧ u.monitor.topDue = true ∧
        (u.steer.nodeState.running = true ∨ u.steer.nodeState.clocked = false ∨ u.steer.nodeState = .fault) := by decide

theorem witness_LinkFollowsLine :
    let u := ticked.elapse zero; let v := (started 2#4).elapse zero
    u.pins.resetAsserted = false ∧ u.steer.nodeState ≠ .warmup ∧ (u.ports.get .b).up = true ∧
      v.pins.resetAsserted = false ∧ v.steer.nodeState ≠ .warmup ∧ (v.ports.get .b).up = false := by decide

/-- R25: in WARMUP a line moves the pin alone, and the port stays DOWN. -/
theorem witness_LinkFollowsLine_warmup :
    let u := State.reset.elapse zero
    let up := take (.linkUp zero .a) State.reset
    u.pins.resetAsserted = false ∧ u.steer.nodeState = .warmup ∧ up.pins.link.a = true ∧ up.ports.a.up = false := by decide

/-- A part at the transmit instant of round 0 with only port A up. -/
def transmitting : State :=
  let s := placed 5#4 .track 4 (at_ 0 640000)
  s.setPorts { s.ports with b := { s.ports.b with up := false } }

theorem witness_TransmitInstantBeginsTicks :
    let u := transmitting.elapse zero
    u.pins.resetAsserted = false ∧ u.steer.nodeState.running = true ∧ u.clock.named.transmit = some (at_ 0 640000) ∧
      u.clock.reading.reached (at_ 0 640000) = true ∧ (u.ports.get .a).up = true ∧ (u.ports.get .a).tx = none ∧
      (u.ports.get .b).up = false ∧ (u.ports.get .b).tx = none := by decide

/-- A failing gate while a tick leaves on port A and none on port B, and a monitor top due from before. -/
theorem witness_FailingGateEntersFault_ticks :
    let s := take (.transmitInstant zero) transmitting
    let u := (s.setMonitor { s.monitor with gatePosition := 1024, phase := 1, topDue := true }).elapse zero
    let t := take (.gateEnd zero) u
    (u.ports.get .a).tx.isSome = true ∧ (u.ports.get .b).tx = none ∧ u.monitor.gateCount = 0 ∧
      u.steer.nodeState.running = true ∧ t.steer.nodeState = .fault ∧ t.ports.a.counters[1] = 1 ∧
      t.ports.b.counters[1] = u.ports.b.counters[1] ∧ t.monitor.topDue = false := by decide

/-- R33: the step counts of the previous-round stamps that port A echoes, in the order of the echoes. -/
theorem witness_TransmitInstantBeginsTicks_echoes :
    let slot (n : BitVec 8) : Slot :=
      { Slot.reset with prev := ⟨some { stamp := at_ 0 9, round := 4294967295#32, step := n }, none⟩ }
    let t := take (.transmitInstant zero) (transmitting.setSlots (slotsOf [(9, slot 3#8), (2, slot 0#8)]))
    (t.ports.a.tx.map fun x => (x.tick.echoes.map (·.peer), x.echoSteps)) = some ([2#4, 9#4], [0#8, 3#8]) := by decide

/-- Table 5-8 and R30: the status fields in ACQUIRE with REF selected, and in TRACK, and the entry of a copy of round 4,801 that
came in at second 1,200. -/
theorem witness_TransmitInstantBeginsTicks_fields :
    let tick (st : NodeState) (selected : Bool) : Option Tick :=
      let s := transmitting.setSlots (slotsOf [(9, { Slot.reset with
        prev := ⟨some { stamp := at_ 1200 1001159782, round := 4801#32, step := 0#8 }, none⟩ })])
      let y : Steering := { s.steer with nodeState := st, refSelected := selected, utc := ⟨-18, true, false⟩ }
      (take (.transmitInstant zero) (s.setSteer y)).ports.a.tx.map (·.tick)
    let sent : PeerStatus := { trackStatus with utcOffset := 0xFFEE#16, leapPending := true }
    ((tick .acquire true).map (·.status)) = some { sent with
        state := .acquire, anchored := true, anchorClass := 1#3, accuracyClass := 15#4 } ∧
      ((tick .track false).map (·.status)) = some sent ∧
      ((tick .track false).map (·.echoes)) =
        some [{ peer := 9#4, round16 := 1#4, nanos := 250289945#30, quarter := 2#2, seconds := 176#8 }] := by decide

theorem witness_EgressStampsTick :
    let u := (take (.transmitInstant zero) transmitting).elapse zero
    u.pins.resetAsserted = false ∧ u.steer.nodeState.running = true ∧
      ∃ x, (u.ports.get .a).tx = some x ∧ x.egress = none := ⟨by decide, by decide, _, rfl, rfl⟩

theorem witness_TxCompleteRecordsTick :
    let u := (take (.tickEgress zero .a) (take (.transmitInstant zero) transmitting)).elapse zero
    u.pins.resetAsserted = false ∧ u.steer.nodeState.running = true ∧
      ∃ x g, (u.ports.get .a).tx = some x ∧ x.egress = some g := ⟨by decide, by decide, _, _, rfl, rfl⟩

/-- Node 9 at an own time from the boundary of round 0, its record changed by `f`. -/
def hearing (st : NodeState) (t : Timestamp) (f : ConfigRecord → ConfigRecord) : State :=
  let s := placed 9#4 st 4 t
  s.setPort { s.port with record := s.port.record.map f }

/-- The frame of node 5's tick of round 0. -/
def frame5 : List Byte := ticked.ports.a.sent

/-- The tick of round 0 that node 5 sent. -/
def tick5 : Option Tick := Tick.decode (framePayload frame5)

/-- A sound frame to the group that carries no tick. -/
def emptyFrame : List Byte := cfg.frameOf 5#4 .a []

/-- Sound frames, and what the checks of Table 2-7 make of them at nodes whose records differ, stage by stage. -/
theorem witness_StructuralChecksDrop :
    frameSound [] = false ∧ frameSound frame5 = true ∧ frameSound emptyFrame = true ∧
      frameDestination frame5 = cfg.group ∧ frameType frame5 = cfg.typeCode ∧
      (hearing .track (at_ 0 660000) fun c => { c with group := 0 }).config.group ≠ frameDestination frame5 ∧
      Tick.decode (framePayload emptyFrame) = none ∧
      (tick5.map fun t => (t.ensemble, t.period, t.sender)) = some (cfg.ensemble, cfg.roundCode, 5#4) ∧
      cfg.nodes = 12 ∧ (hearing .track (at_ 0 660000) id).takesFrames .a = true := by decide +kernel

/-- R24, Table 2-1: node 9 takes node 5's frame with its port UP, and takes and counts none with the port DOWN or in CONFIG. -/
theorem witness_StructuralChecksDrop_discards :
    let up := hearing .track (at_ 0 660000) id
    let down := up.setPorts { up.ports with a := { up.ports.a with up := false } }
    let idle := up.setSteer { up.steer with nodeState := .config }
    take (.frameReceive zero .a frame5) up ≠ up ∧ (down.ports.get .a).up = false ∧
      take (.frameReceive zero .a frame5) down = down ∧ idle.steer.nodeState.running = false ∧
      take (.frameReceive zero .a frame5) idle = idle := by decide +kernel

/-- Whether a frame from node 5 passes the frame and structural checks and its check word verifies at a node. -/
def hears (s : State) (frame : List Byte) : Bool × Bool :=
  match structural s.config s.port.strapId frame with
  | .fails _ => (false, false)
  | .passes _ body => (frameSound frame, checkVerifies s.config body)

theorem witness_BadCheckDrops :
    hears (hearing .track (at_ 0 660000) fun c => { c with k0 := 5 }) frame5 = (true, false) ∧
      (hearing .track (at_ 0 660000) fun c => { c with k0 := 5 }).takesFrames .a = true := by decide +kernel

/-- The four ways out of the window, at their boundary values, with C 8,000,000 and half a round 500,000,000. -/
theorem witness_UntimelyCopyDrops :
    hears (hearing .track (at_ 0 8000000) id) frame5 = (true, true) ∧
      (∀ p ∈ [(at_ 0 8000000, (8000000 : Int)), (at_ 0 499999999, 499999999), (at_ 0 500000000, 500000000),
          (at_ 1099511627775 3991999999, -8000001), (at_ 1099511627775 3500000001, -499999999),
          (at_ 1099511627775 3500000000, -500000000)],
        fromNamedBoundary cfg 0#32 p.1 = p.2 ∧ (hearing .track p.1 id).takesFrames .a = true) ∧
      cfg.closeQns = 8000000 ∧ cfg.roundQns = 1000000000 := by decide +kernel

/-- R31, R70, R133, R149 with T_r 250 ms, C 2 ms and node 5, at readings just before, on and after an instant, and before the
seconds wrap. -/
theorem test_firstInstants :
    nextClose cfg (at_ 0 7999999) = at_ 0 8000000 ∧ nextClose cfg (at_ 0 8000000) = at_ 0 1008000000 ∧
      nextClose cfg (at_ 1099511627775 3008000000) = at_ 0 8000000 ∧ roundOfClose cfg (at_ 1200 1008000000) = 4801#32 ∧
      nextTransmit cfg 5 (at_ 0 640000) = at_ 0 640000 ∧ nextTransmit cfg 5 (at_ 0 640001) = at_ 0 1000640000 ∧
      roundOfTransmit cfg 5 (at_ 1200 1000640000) = 4801#32 ∧ nextTop (at_ 7 0) = at_ 8 0 ∧
      nextTop (at_ 1099511627775 1) = at_ 0 0 ∧ nextHalf (at_ 7 1999999999) = at_ 7 2000000000 ∧
      nextHalf (at_ 7 2000000000) = at_ 8 2000000000 := by decide

theorem witness_TimelyCopyIsAccepted :
    (∀ p ∈ [(at_ 0 7999999, (7999999 : Int)), (at_ 1099511627775 3992000000, -8000000)],
        fromNamedBoundary cfg 0#32 p.1 = p.2 ∧ (hearing .track p.1 id).takesFrames .a = true) ∧
      hears (hearing .listen (at_ 0 999999) id) frame5 = (true, true) ∧
      (hearing .listen (at_ 0 999999) id).takesFrames .a = true ∧ cfg.closeQns * 2 < cfg.roundQns ∧
      (hearing .listen (at_ 0 999999) id).slots[5].current = ⟨none, none⟩ := by decide +kernel

/-- Node 5's tick of round 0 with an echo of node 9's tick of round 0, received at 0.000160000 s. -/
def echoFrame : List Byte :=
  match tick5 with
  | none => []
  | some t =>
    let b := { t with echoes := [{ peer := 9#4, round16 := 0#4, nanos := 160000#30, quarter := 0#2, seconds := 0#8 }] }.encode
    cfg.frameOf 5#4 .a (b ++ bytes4 (cfg.checkWord b))

/-- Node 9 at 2,000,000 qns, with its own tick of round 0 stamped at `t1`, valid or not. -/
def echoed (t1 : Nat) (valid : Bool) : State :=
  let s := hearing .track (at_ 0 2000000) id
  s.setPorts (s.ports.map fun p => { p with history := [{ round := 0#32, tx := at_ 0 t1, step := 0#8, valid := valid }] })

/-- The outcome and the sample of the copy that node 9 accepts. -/
def accepted (s : State) : Option (DelayOutcome × List Nat) :=
  let x := (take (.frameReceive zero .a echoFrame) s).slots[5]
  x.current.a.map fun c => (c.outcome, x.windows.a.map (·.value))

/-- R51, R47: raw samples of −1, 0, the max delay of 400,000 qns and one more, and an entry that is not valid. -/
theorem witness_TimelyCopyIsAccepted_echo :
    hears (echoed 1000000 true) echoFrame = (true, true) ∧
      ∀ p ∈ [(1996802, true, DelayOutcome.clamped, [0]), (1996800, true, .added, [0]), (1196800, true, .added, [400000]),
          (1196798, true, .overMax, []), (1196800, false, .invalidated, [])],
        accepted (echoed p.1 p.2.1) = some p.2.2 := by decide +kernel

theorem witness_DuplicateCopyDrops :
    let s := take (.frameReceive zero .a frame5) (hearing .track (at_ 0 660000) id)
    hears s frame5 = (true, true) ∧ s.takesFrames .a = true ∧ fromNamedBoundary s.config 0#32 s.clock.reading = 660000 ∧
      (s.slots[5].current.a.map fun c => c.attributed) = some 0#32 := by decide +kernel

/-- Node 5 of Section 3.6.1 at the close of round 4,801, its slot 9 holding both copies. -/
def closing : State :=
  let s := placed 5#4 .track 4 (at_ 1200 1008000000)
  let s1 := s.setSlots (slotsOf [(9, slot9)])
  s1.setClock { s1.clock with named := { s1.clock.named with close := some (at_ 1200 1008000000) } }

theorem witness_RoundCloseTakes :
    let u := closing.elapse zero
    u.pins.resetAsserted = false ∧ u.steer.nodeState.running = true ∧
      u.clock.named.close = some (at_ 1200 1008000000) ∧ u.clock.reading.reached (at_ 1200 1008000000) = true ∧
      u.round.flight = none ∧ (take (.roundClose zero) closing).slots[9].lane ≠ none := by decide

theorem witness_LaneIsPreferred :
    let u := closing.elapse zero
    u.pins.resetAsserted = false ∧ u.steer.nodeState.running = true ∧
      u.clock.named.close = some (at_ 1200 1008000000) ∧ u.clock.reading.reached (at_ 1200 1008000000) = true ∧
      u.round.flight = none ∧ (take (.roundClose zero) closing).slots[3].lane = none := by decide

/-- R58: both copies with an estimate, unchecked alike: a port without a filtered delay is not preferred, and without either
port A is. -/
theorem witness_LaneIsPreferred_delays :
    let copy (c : Copy) (v : Int) : Option Copy := some { c with estimate := some v }
    let port (wa wb : List Nat) : Option (Int × PortId) :=
      let x := { Slot.reset with
        liveness := .active, windows := ⟨window wa, window wb⟩, current := ⟨copy copyA 1, copy copyB 2⟩ }
      (take (.roundClose zero) (closing.setSlots (slotsOf [(9, x)]))).slots[9].lane.map fun l => (l.value, l.port)
    port [] [] = some (1, .a) ∧ port [] [7] = some (2, .b) ∧ port [7] [] = some (1, .a) ∧ port [7] [7] = some (1, .a) ∧
      port [8] [7] = some (2, .b) := by decide

theorem witness_RoundCompletionPublishes :
    let u := inFlight.elapse zero
    u.pins.resetAsserted = false ∧ u.steer.nodeState.running = true ∧ u.round.flight = some (flight table41) := by decide

/-- A close in flight in a node state, REF disabled, with the lanes of Table 4-1 or none. -/
def deciding (st : NodeState) (slots : Vector Slot 16) (threshold : Nat) : State :=
  let s := (placed 1#4 st 4 (at_ 1200 1008600000)).setSlots slots
  let s1 := s.setRound { s.round with flight := some { flight slots with nodeState := st } }
  s1.setPort { s1.port with
    record := s1.port.record.map fun c => { c with refEnable := false, slewLimit := 1, stepThreshold := threshold } }

/-- The correction that a completion publishes. -/
def corrected (s : State) : Option Int := (take (.roundCompletion zero) s).round.published.correction

/-- Every state with a correction within the threshold, one beyond it, and none: 65 (or 70 without the self lane) against
thresholds of 100 and 1. -/
theorem witness_OrdinaryDecisions :
    (∀ st ∈ [NodeState.listen, .acquire, .track, .holdover], ∀ n ∈ [100, 1], let u := (deciding st table41 n).elapse zero
      u.pins.resetAsserted = false ∧ u.steer.nodeState.running = true ∧
        u.round.flight = some { flight table41 with nodeState := st } ∧ u.config.refEnable = false ∧
        u.steer.refSelected = false ∧ u.steer.epochKnown = true ∧ (corrected (deciding st table41 n)).isSome = true) ∧
      ∀ st ∈ [NodeState.listen, .acquire, .track, .holdover], let s := deciding st (slotsOf []) 1
        s.steer.nodeState = st ∧ s.round.flight.isSome = true ∧ corrected s = none := by decide

/-- A HOLD, a SLEW and a STEP. -/
theorem witness_RoundCompletionPublishes_actions :
    let action (s : State) := (take (.roundCompletion zero) s).round.published.action
    action (deciding .track (slotsOf []) 1) = .hold ∧ action (deciding .track table41 100) = .slew 1 ∧
      action (deciding .holdover table41 1) = .step 65 := by decide

/-- A HOLD and a SLEW while a copy received since the close, a counter, a REF offset and a pending anchor time stand. -/
theorem witness_RoundCompletionPublishes_unmoved :
    ∀ n ∈ [1, 100],
      let held : Slot := { Slot.reset with current := ⟨some copyA, none⟩, counters := Slot.reset.counters.set 0 7 }
      let s := deciding .track (table41.set 11 held) n
      let s1 := s.setRef { s.ref with
        lastOffset := some 1000, pendingTime := some { seconds := 5#40, utc := ⟨37, false, false⟩, expiry := at_ 1201 0 } }
      let t := take (.roundCompletion zero) s1
      t.round.published.action = (if n = 1 then .hold else .slew 1) ∧ t.slots[11].current = ⟨some copyA, none⟩ ∧
        t.slots[11].counters[0] = 7 ∧ t.ref.lastOffset = some 1000 ∧ t.ref.pendingTime.isSome = true := by decide

/-- A STEP of 65 that meets a held copy, one at its bound, a REF offset at the end of its range and a jumped leap. -/
theorem test_completion_step :
    let s := deciding .holdover table41 1
    let c := s.clock
    let s1 := s.setClock { c with reading := at_ 820540837 3999999940 }
    let s2 := s1.setSteer { s1.steer with utc := ⟨37, true, false⟩, hostTimescale := true }
    let s3 := s2.setRef { s2.ref with lastOffset := some (-1999999940) }
    let copy (v : Int) : Slot := { Slot.reset with current := ⟨some { copyA with estimate := some v }, none⟩ }
    let s4 := s3.setSlots (slotsOf [(2, copy 60), (3, copy (-4194240))])
    let t := take (.roundCompletion zero) s4
    (t.slots[2].current.a.map (·.estimate)) = some (some (-5)) ∧ (t.slots[3].current.a.map (·.estimate)) = some none ∧
      t.slots[3].counters[9] = 1 ∧ t.ref.lastOffset = some 1999999995 ∧ t.steer.utc = ⟨38, false, false⟩ ∧
      t.steer.leapGuard = some (at_ 820540840 5) := by decide

/-- A STEP of 65 without a leap pending moves the leap guard, and counts in the correction total; a SLEW counts the remainder it
settles, 1 qns. -/
theorem witness_RoundCompletionPublishes_guard :
    let s := deciding .holdover table41 1
    let s1 := s.setSteer { s.steer with utc := ⟨37, false, false⟩, leapGuard := some (at_ 1200 2000000000) }
    let t := take (.roundCompletion zero) (s1.setRef { s1.ref with lastPulse := some (at_ 1200 0) })
    let w : Slew := { amount := 65, delivered := 64, residue := 0, term := 65000, finish := at_ 1201 0 }
    let v := (deciding .track table41 100).setClock { (deciding .track table41 100).clock with slew := some w }
    let y := take (.roundCompletion zero) (v.setRef { v.ref with lastPulse := some (at_ 1200 0) })
    t.round.published.action = .step 65 ∧ t.steer.utc = ⟨37, false, false⟩ ∧
      t.steer.leapGuard = some (at_ 1200 2000000065) ∧ t.ref.correction = 65 ∧ t.cond.flags = 0x0004#16 ∧
      y.round.published.action = .slew 1 ∧ y.ref.correction = 1 ∧ y.cond.flags = 0x0002#16 := by decide

/-- A close in flight with REF enabled, in a node state with REF selected or not, the reference in a state and an offset taken
fresh at the close or not. -/
def steeredByRef (st : NodeState) (selected : Bool) (ref : RefState) (offset : Option Int) : State :=
  let s := (placed 1#4 st 4 (at_ 1200 1008600000)).setSlots table41
  let s1 := s.setSteer { s.steer with refSelected := selected, agreementCount := 7, atLimitCount := 7 }
  let s2 := s1.setRef { RefUnit.reset with state := ref, inside := 7 }
  s2.setRound { s2.round with
    flight := some { flight table41 with nodeState := st, refSelected := selected, refOffset := offset } }

/-- What the completion leaves: the node state, whether REF is selected, the action. -/
def decided (s : State) : NodeState × Bool × Action :=
  let t := take (.roundCompletion zero) s
  (t.steer.nodeState, t.steer.refSelected, t.round.published.action)

/-- R108, R109, R110: release, entry and the rounds of ACQUIRE and ANCHORED, at both ends of the band of 100 and of the step
threshold of 40,000. -/
theorem witness_OrdinaryDecisions_ref :
    decided (steeredByRef .anchored true .absent none) = (.track, false, .hold) ∧
      decided (steeredByRef .acquire true .absent none) = (.acquire, false, .hold) ∧
      decided (steeredByRef .acquire true .valid (some 100)) = (.anchored, true, .slew 100) ∧
      decided (steeredByRef .acquire true .valid (some 101)) = (.acquire, true, .slew 101) ∧
      decided (steeredByRef .acquire true .valid (some 40001)) = (.acquire, true, .step 40001) ∧
      decided (steeredByRef .anchored true .valid (some 40000)) = (.anchored, true, .slew 10000) ∧
      decided (steeredByRef .anchored true .valid (some (-40001))) = (.acquire, true, .step (-40001)) ∧
      decided (steeredByRef .listen false .valid none) = (.acquire, true, .hold) ∧
      decided (steeredByRef .track false .valid (some 100)) = (.anchored, true, .slew 65) ∧
      decided (steeredByRef .holdover false .valid (some 101)) = (.acquire, true, .hold) ∧
      decided (steeredByRef .track false .valid none) = (.track, false, .slew 65) := by decide +kernel

/-- R110, Table 5-6: a release from ANCHORED with the peer range starved enters HOLDOVER with the estimate kept at entry and
growing by G_h, 4 ns, a round; one from ACQUIRE changes no state, returns the counters to 0 and keeps the estimate. -/
theorem witness_OrdinaryDecisions_release :
    let s := steeredByRef .anchored true .absent none
    let s1 := s.setSteer { s.steer with estimate := 15 }
    let y := (take (.roundCompletion zero) (s1.setRound { s1.round with flight := some {
      flight (slotsOf []) with nodeState := .anchored, refSelected := true } })).steer
    let z := (take (.roundCompletion zero) (steeredByRef .acquire true .absent none)).steer
    cfg.growth = 4 ∧ y.nodeState = .holdover ∧ y.refSelected = false ∧ y.holdoverEntry = 15 ∧ y.estimate = 19 ∧
      y.epochKnown = true ∧ z.nodeState = .acquire ∧ z.agreementCount = 0 ∧ z.epochKnown = true := by decide +kernel

/-- Table 5-2: of a round of TRACK that changes nothing the counters of the other states stay. -/
theorem witness_OrdinaryDecisions_unmoved :
    let s := deciding .track table41 100
    let y := (take (.roundCompletion zero) (s.setSteer { s.steer with listenCount := 2, agreementCount := 5 })).steer
    y.nodeState = .track ∧ y.refSelected = s.steer.refSelected ∧ y.listenCount = 2 ∧ y.agreementCount = 5 := by decide

/-- R101: the eighth order at the rate limit; R126: all lanes of Table 4-1 carry +37. -/
theorem witness_OrdinaryDecisions_limit :
    let s := steeredByRef .track false .absent none
    let t := take (.roundCompletion zero) (s.setClock { s.clock with rate := 100000000 })
    t.flag 9 = true ∧ t.steer.atLimitCount = 0 ∧ (take (.roundCompletion zero) s).flag 9 = false ∧
      s.steer.utc = ⟨0, false, false⟩ ∧ t.steer.utc = ⟨37, false, false⟩ := by decide

/-- A slot that gives a full-width value: an ACTIVE one whose round copy has a delay in its window. -/
def epochSlot (v : Int) : Slot :=
  { Slot.reset with
    liveness := .active, windows := ⟨window [4000], []⟩
    round := ⟨some { copyA with checked := true, ingress := at_ 1200 0, tx := WireStamp.ofTimestamp (at_ 9000 (1000 + v.toNat)) },
      none⟩ }

/-- R107: an ACQUIRE node with its epoch unknown adopts the offer of two agreeing peers. -/
theorem witness_OrdinaryDecisions_epoch :
    let s := steeredByRef .acquire false .absent none
    let f := { flight (slotsOf [(2, epochSlot 10), (3, epochSlot 20)]) with nodeState := .acquire, epochKnown := false }
    let s1 := (s.setSteer { s.steer with epochKnown := false }).setRound { s.round with flight := some f }
    let t := take (.roundCompletion zero) s1
    f.offer s1.config ≠ none ∧ t.round.published.action = .step 31200000005015 ∧ t.steer.epochKnown = true ∧
      t.steer.utc = ⟨37, false, false⟩ ∧ t.steer.agreementCount = 0 := by decide

/-- R98, R127: the STEP of an adopted offer jumps over the leap that the offer's UTC values hold pending, and carries it out. -/
theorem witness_OrdinaryDecisions_epochLeap :
    let s := steeredByRef .acquire false .absent none
    let slot (v : Int) : Slot :=
      { epochSlot v with
        round := ⟨some { copyA with
          checked := true, ingress := at_ 1200 0, tx := WireStamp.ofTimestamp (at_ 90000 (1000 + v.toNat))
          status := { trackStatus with leapPending := true } }, none⟩ }
    let f := { flight (slotsOf [(2, slot 10), (3, slot 20)]) with nodeState := .acquire, epochKnown := false }
    let t := take (.roundCompletion zero)
      ((s.setSteer { s.steer with epochKnown := false }).setRound { s.round with flight := some f })
    (f.offer s.config).map (·.utc) = some ⟨37, true, false⟩ ∧ t.steer.epochKnown = true ∧ t.steer.utc = ⟨38, false, false⟩ ∧
      t.steer.leapGuard = some (t.clock.reading.plus 8000000000) := by decide

/-- R87, log entry 18: of five values 5 qns to 2,000 qns apart those within 100 qns of the mean 20 agree, one copy carrying +36,
two +37 and two +38, and the offer takes +38 of node 4; with one copy left no offer is made. -/
theorem witness_OrdinaryDecisions_offer :
    let slot (v : Int) (utc : BitVec 16) : Slot :=
      { epochSlot v with round := ⟨(epochSlot v).round.a.map fun c => { c with
        status := { trackStatus with utcOffset := utc } }, none⟩ }
    let f := { flight (slotsOf [(2, slot 10 36#16), (4, slot 20 38#16), (5, slot 15 37#16), (6, slot 30 37#16),
      (7, slot 2000 37#16), (8, slot 25 38#16)]) with nodeState := .acquire, epochKnown := false }
    ((f.offer cfg).map fun o => (o.agreeing, o.utc.offset)) = some (5, 38) ∧
      ({ f with slots := slotsOf [(2, slot 10 36#16)] }.offer cfg) = none ∧
      ({ f with nodeState := .listen }.offer cfg) = none ∧ ({ f with epochKnown := true }.offer cfg) = none := by decide

/-- R98 step 1, R111: an overtaken round in HOLDOVER ages and follows Table 5-6, and one in TRACK leaves the record as it was. -/
theorem witness_OrdinaryDecisions_overtaken :
    let run (st : NodeState) : State :=
      let s := deciding st table41 100
      let s1 := s.setSteer { s.steer with holdoverAge := 4, holdoverEntry := 15, estimate := 31, excessCount := 2 }
      s1.setRound { s1.round with flight := some { flight table41 with nodeState := st, overtaken := true } }
    let t (st : NodeState) := take (.roundCompletion zero) (run st)
    ((run .track).elapse zero).steer.nodeState.running = true ∧ (t .track).round.published.action = .hold ∧
      (t .track).steer = { (run .track).steer with accuracyClass := 5 } ∧ (t .track).round.published.correction = none ∧
      (t .holdover).steer = { (run .holdover).steer with holdoverAge := 5, estimate := 35, accuracyClass := 6 } := by decide

theorem witness_StarvedRoundHolds :
    ∀ st ∈ [NodeState.track, .acquire], let u := (deciding st (slotsOf []) 1).elapse zero
      let f := { flight (slotsOf []) with nodeState := st }
      u.pins.resetAsserted = false ∧ u.steer.nodeState.running = true ∧ u.round.flight = some f ∧ f.overtaken = false ∧
        f.byRef = false ∧ (f.setS u.ownId).length < 2 * u.config.tolerance + 1 ∧
        (f.setC u.ownId).length < 2 * u.config.tolerance + 1 := by decide

/-- A completion that finds slot 2 suspect with seven agreements, slot 9 with seven trims, and slot 4 in its 32nd miss. -/
def judging : State :=
  let v := ((inFlight.slots.set 2 { inFlight.slots[2] with suspect := true, agreements := 7 }).set 9
    { inFlight.slots[9] with trims := 7 }).set 4 { Slot.reset with liveness := .silent, misses := 31 }
  inFlight.setSlots v

/-- R61, R62, R63: slot 2 is cleared of suspicion, slot 9 becomes suspect, slot 4 VACANT, and SUSPECT is set. -/
theorem witness_StarvedRoundHolds_slots :
    let t := take (.roundCompletion zero) judging
    judging.slots[2].suspect = true ∧ t.slots[2].suspect = false ∧ t.slots[2].agreements = 0 ∧
      judging.slots[9].suspect = false ∧ t.slots[9].suspect = true ∧ t.slots[9].trims = 0 ∧
      judging.slots[4].liveness = .silent ∧ t.slots[4].liveness = .vacant ∧ t.slots[4].misses = 0 ∧ t.flag 14 = true := by
  decide

/-- R75 to R78, R86: the sets in LISTEN with the epoch unknown, where the lane without a known epoch goes; in TRACK, where
lanes of another epoch flag, a suspect slot and a HEARD one offer nothing and the self lane joins S; and the cold set of
ACQUIRE at the quiet counts 15 and 16. -/
theorem witness_StarvedRoundHolds_sets :
    let other (v : Int) : Slot := { laneSlot v .track 0 with
      lane := some { value := v, port := .a, status := { trackStatus with epochKnown := false } } }
    let v := slotsOf [(2, laneSlot 10 .track 0), (3, other 20), (4, { laneSlot 30 .track 0 with suspect := true }),
      (5, { laneSlot 40 .track 0 with liveness := .heard }), (6, laneSlot 50 .acquire 0)]
    let listen := { flight v with nodeState := .listen, epochKnown := false }
    let acquire := { flight v with nodeState := .acquire }
    let ids (l : List SetLane) := l.map (·.id)
    ids (listen.setS 1) = [2] ∧ ids (listen.setC 1) = [2, 6] ∧ ids listen.settledLanes = [2, 3] ∧
      ids ((flight v).setS 1) = [2, 1] ∧ ids (acquire.setS 1) = [2] ∧ ids (acquire.setC 1) = [2, 6, 1] ∧
      acquire.coldConsidered cfg 1 16 = true ∧ acquire.coldConsidered cfg 1 15 = false ∧
      (acquire.used cfg 1 16).1 = .cold ∧ (acquire.used cfg 1 15).1 = .none ∧ acquire.peerRange cfg = .starved ∧
      ((flight table41).peerRange cfg) = .kept ⟨60, 120⟩ ∧
      (flight table41).peerRange { cfg with refEnable := false } = .absent := by decide

theorem witness_AggregateIsTrimmedMean :
    ((flight table41).result cfg 1 0).setUsed = .settled ∧ ((flight table41).result cfg 1 0).accepted = false ∧
      ({ flight (slotsOf [(1, laneSlot 3 .listen 0), (2, laneSlot 2 .listen 0), (3, laneSlot 4 .listen 0)]) with
          nodeState := .listen }.result cfg 0 16).setUsed = .cold ∧
      let u := inFlight.elapse zero
      u.pins.resetAsserted = false ∧ u.steer.nodeState.running = true ∧ u.round.flight = some (flight table41) ∧
        cfg = u.config ∧ 1 = u.ownId ∧ 0 = u.round.quiet := by decide

/-- The lanes of Tables 4-2 and 4-3, an anchored target accepted and one refused, at both ends of the split bound: kept −10 to
30, bound 500. -/
theorem witness_AggregateIsTrimmedMean_anchors :
    let r (v : Int) := (flight (slotsOf [(0, laneSlot v .anchored 1), (3, laneSlot 30 .track 0), (4, laneSlot (-10) .track 0),
      (7, laneSlot (-20) .track 0), (8, laneSlot 10 .track 0)])).result cfg 5 0
    (r 5000).setUsed = .settled ∧ (r 530).accepted = true ∧ (r 531).accepted = false ∧ (r (-520)).accepted = true ∧
      (r (-521)).accepted = false ∧ (r 530).source = .anchors ∧ (r 531).source = .ensemble ∧ (r 530).estimate = some 16 ∧
      (r 531).estimate = some 5 ∧
      ({ flight table41 with nodeState := .anchored }.result cfg 1 0).estimate = some 16 ∧
      ({ flight table41 with overtaken := true }.result cfg 1 0).estimate = none := by decide

/-- Peer 9 of Table 4-1 is the faulty one, and the others lie from −40 to 120. -/
theorem witness_FaultyLanesCannotMoveCorrection :
    let u := inFlight.elapse zero; let f := flight table41
    let lanes := (f.used u.config u.ownId u.round.quiet).2
    u.pins.resetAsserted = false ∧ u.steer.nodeState.running = true ∧ u.round.flight = some f ∧ f.overtaken = false ∧
      (f.result u.config u.ownId u.round.quiet).source = .ensemble ∧
      (lanes.filter fun x => x.id = 9).length ≤ u.config.tolerance ∧
      ∀ x ∈ lanes, decide (x.id = 9) = false → -40 ≤ x.value ∧ x.value ≤ 120 := by decide

/-- A part with a slew in progress that ends at a reading. -/
def slewing (finish : Timestamp) (last : Option Timestamp) : State :=
  let s := placed 1#4 .track 4 (at_ 1200 1009001640)
  let s1 := s.setClock { s.clock with
    slew := some { amount := 65, delivered := 64, residue := 0, term := 65000, finish := finish } }
  s1.setRef { s1.ref with lastPulse := last }

theorem witness_SlewEndSettles :
    ∀ last ∈ [none, some (at_ 1200 0)], let u := (slewing (at_ 1200 1009001640) last).elapse zero
      let v := (slewing (at_ 1200 1009001641) last).elapse zero
      u.pins.resetAsserted = false ∧ u.steer.nodeState.running = true ∧ u.clock.slew.isSome = true ∧
        u.clock.reading.reached (at_ 1200 1009001640) = true ∧ v.clock.reading.reached (at_ 1200 1009001641) = false ∧
        u.ref.lastPulse = last := by decide

/-- Table 1-2, with 64 of 65 qns delivered: 125 ms deliver 32 qns of slew, and of a slew back, which count in the correction
total while a last pulse stamp is held. -/
theorem witness_CyclesAdvanceReading_slew :
    let run (term : Int) (last : Option Timestamp) : State :=
      let s := slewing (at_ 1201 0) last
      (s.setClock { s.clock with slew := s.clock.slew.map fun w => { w with term := term } }).elapse ⟨12500000, 0⟩
    (slewing (at_ 1201 0) none).pins.resetAsserted = false ∧ (slewing (at_ 1201 0) none).steer.nodeState.clocked = true ∧
      (run 65000 none).clock.reading = at_ 1200 1509001672 ∧ (run 65000 none).ref.correction = 0 ∧
      ((run 65000 none).clock.slew.map fun w => (w.delivered, w.residue)) = some (96, 500000000000) ∧
      (run (-65000) (some (at_ 1200 0))).clock.reading = at_ 1200 1509001608 ∧
      (run (-65000) (some (at_ 1200 0))).ref.correction = -32 ∧
      ((run (-65000) (some (at_ 1200 0))).clock.slew.map fun w => (w.delivered, w.residue)) = some (32, -500000000000) := by
  decide

/-- A part at a pulse with a REF state and a qualification count, one interval after its last pulse stamp. -/
def pulsing (st : RefState) (count : Nat) (interval : Nat) : State :=
  let s := placed 1#4 .track 4 (at_ 505 (16 + interval))
  s.setRef { RefUnit.reset with state := st, qualCount := count, lastPulse := some (at_ 505 16) }

/-- Every REF state, with intervals at both ends of the window and just beyond them. -/
theorem witness_RefPulseMovesState :
    ∀ st ∈ [RefState.absent, .qualifying, .valid, .distrusted], ∀ n ∈ [2, 3],
      ∀ p ∈ [(3999600000, true), (4000400000, true), (3999599999, false), (4000400001, false)],
        let u := (pulsing st n p.1).elapse zero
        u.pins.resetAsserted = false ∧ u.steer.nodeState.running = true ∧ u.config.refEnable = true ∧
          u.ref.pendingTime = none ∧ u.ref.state = st ∧ u.ref.qualCount = n ∧ u.ref.onTime u.clock.reading = p.2 := by decide +kernel

/-- R121, R122: rounds judged in VALID and DISTRUSTED at both ends of the peer range of 60 to 120, widened by the split bound of
500, and just beyond them. -/
theorem witness_RefPulseMovesState_judged :
    let after (st : RefState) (o : Option Int) : RefState :=
      let s := steeredByRef .anchored true st o
      (take (.roundCompletion zero) (s.setRef { s.ref with outside := 7 })).ref.state
    (flight table41).peerRange (steeredByRef .anchored true .valid none).config = .kept ⟨60, 120⟩ ∧
      after .valid (some (-440)) = .valid ∧ after .valid (some (-441)) = .distrusted ∧ after .valid (some 620) = .valid ∧
      after .valid (some 621) = .distrusted ∧ after .valid none = .valid ∧ after .distrusted (some 620) = .valid ∧
      after .distrusted (some 621) = .distrusted ∧ after .absent (some 621) = .absent := by decide

/-- The part of Table 6-3 with its epoch known or not and a pending second equal to the own second, 7302, or not. -/
def anchorAt (known : Bool) (second : BitVec 40) : State :=
  (anchoring.setSteer { anchoring.steer with epochKnown := known }).setRef { anchoring.ref with
    pendingTime := some { seconds := second, utc := ⟨37, false, false⟩, expiry := at_ 7303 1600000000 } }

theorem witness_AnchorTimeApplied :
    let u := (anchorAt true 7302#40).elapse zero; let v := (anchorAt false 820540000#40).elapse zero
    u.pins.resetAsserted = false ∧ u.steer.nodeState.running = true ∧ u.config.refEnable = true ∧
      (u.ref.pendingTime.map (·.seconds)) = some 7302#40 ∧ u.ref.state = .valid ∧ u.steer.epochKnown = true ∧
      (v.ref.pendingTime.map (·.seconds)) = some 820540000#40 ∧ v.ref.state = .valid ∧ v.steer.epochKnown = false := by decide

theorem witness_AnchorTimeApplied_onTime :
    (anchorAt true 7302#40).ref.onTime (anchorAt true 7302#40).clock.reading = true ∧
      ownSecond (anchorAt true 7302#40).clock.reading = 7302 := by decide

/-- R137: an anchor time's STEP from 1,666,666 qns, where pulse 2 of the 4,800 train rises, names the rise of pulse 3; from
3,999,166,666 qns, where the last one rises, none. -/
theorem witness_AnchorTimeApplied_train :
    let at1 (q : Nat) : State :=
      let s := anchorAt false 820540000#40
      let s1 := s.setClock { s.clock with reading := at_ 7301 q }
      let s2 := s1.setRef { s1.ref with lastPulse := some (at_ 7300 q) }
      s2.setOuts { s2.outs with first := { PairState.reset with phase := .both } }
    let edge (q : Nat) := (take (.refPulse zero) (at1 q)).outs.channels[0].edge
    (at1 1666666).paired 0 = true ∧ ((at1 1666666).config.outs[0]).mode = .train ∧
      edge 1666666 = some { reading := at_ 820540000 2500000, rising := true, index := 3 } ∧ edge 3999166666 = none := by
  decide

/-- Anchor times with leap pending whose STEP jumps over the leap second before 820,540,838 or stops a second short of it, a leap
guard held; and pulses with an anchor time pending that it does not apply at: off time in VALID, and the last but one of
QUALIFYING. -/
theorem witness_AnchorTimeApplied_leap :
    let at1 (second : BitVec 40) : State :=
      let s := anchorAt false second
      let s1 := s.setSteer { s.steer with leapGuard := some (at_ 7303 0) }
      let s2 := s1.setClock { s1.clock with reading := at_ 820540001 3999999984 }
      s2.setRef { s2.ref with
        lastPulse := some (at_ 820540000 3999999984)
        pendingTime := s2.ref.pendingTime.map fun a => { a with utc := ⟨37, true, false⟩ } }
    let t (second : BitVec 40) := take (.refPulse zero) (at1 second)
    let off (st : RefState) (count : Nat) (qns : Nat) : State :=
      let s := anchorAt true 7302#40
      take (.refPulse zero) (s.setRef { s.ref with state := st, qualCount := count, lastPulse := some (at_ 7300 qns) })
    (t 820540839#40).steer.utc = ⟨38, false, false⟩ ∧ (t 820540839#40).steer.leapGuard = some (at_ 820540840 3999999984) ∧
      (t 820540838#40).steer.utc = ⟨37, true, false⟩ ∧ (t 820540838#40).steer.leapGuard = some (at_ 8139 0) ∧
      (t 820540838#40).ref.correction = 3344000000000 ∧
      (off .valid 0 3999000000).ref.state = .qualifying ∧ (off .valid 0 3999000000).ref.pendingTime.isSome = true ∧
      (off .valid 0 3999000000).flag 10 = true ∧ (off .qualifying 2 3999999984).ref.qualCount = 3 ∧
      (off .qualifying 2 3999999984).ref.pendingTime.isSome = true ∧ (off .qualifying 3 3999999984).ref.state = .valid ∧
      (off .qualifying 3 3999999984).ref.pendingTime = none := by decide

/-- R56: the STEP of an anchor time moves held copies, in TRACK within the offset bound and in LISTEN without it. -/
theorem witness_AnchorTimeApplied_copies :
    let held (st : NodeState) : State :=
      let s := (anchorAt false 7303#40).setSlots
        (slotsOf [(2, { Slot.reset with current := ⟨some { copyA with estimate := some 4000000060 }, some copyB⟩ }),
          (3, { Slot.reset with current := ⟨some { copyA with estimate := some 60 }, none⟩ })])
      take (.refPulse zero) (s.setSteer { s.steer with nodeState := st })
    let estimate (st : NodeState) (i : Fin 16) := (held st).slots[i].current.a.map (·.estimate)
    estimate .track 2 = some (some 60) ∧ estimate .track 3 = some none ∧ (held .track).slots[3].counters[9] = 1 ∧
      estimate .listen 3 = some (some (-3999999940)) ∧ (held .listen).slots[3].counters[9] = 0 := by decide

/-- A reference in a state whose miss instant is at this reading, or one qns later. -/
def missAt (st : RefState) (misses : Nat) (early : Nat) : State :=
  let s := missing (at_ (507 + misses) (400008 - early)) misses
  s.setRef { s.ref with state := st }

theorem witness_MissInstantMoves :
    ∀ st ∈ [RefState.qualifying, .valid, .distrusted], ∀ n ∈ [0, 1],
      let u := (missAt st n 0).elapse zero; let v := (missAt st n 1).elapse zero
      u.pins.resetAsserted = false ∧ u.steer.nodeState.running = true ∧ u.config.refEnable = true ∧ u.ref.state = st ∧
        u.ref.missCount = n ∧ u.missReached = true ∧ v.missReached = false := by decide

/-- A part with an anchor time, a leap guard and a pulse end named at a reading. -/
def expiring (t : Timestamp) : State :=
  let s := placed 1#4 .track 4 (at_ 5001 400000000)
  let s1 := s.setRef { s.ref with pendingTime := some { seconds := 0#40, utc := ⟨0, false, false⟩, expiry := t } }
  let s2 := s1.setSteer { s1.steer with leapGuard := some t }
  s2.modifyChannel 1 fun c => { c with high := true, pulseEnd := some t }

theorem witness_NamedExpiriesEnd :
    ∀ p ∈ [(at_ 5001 400000000, true), (at_ 5001 400000001, false)], let u := (expiring p.1).elapse zero
      u.pins.resetAsserted = false ∧ u.steer.nodeState.running = true ∧ u.steer.nodeState.clocked = true ∧
        (u.ref.pendingTime.map (·.expiry)) = some p.1 ∧ u.steer.leapGuard = some p.1 ∧
        u.outs.channels[1].pulseEnd = some p.1 ∧ u.clock.reading.reached p.1 = p.2 := by decide

/-- A part at the top of a second, its UTC values set. -/
def topping (st : NodeState) (second : Nat) (utc : UtcValues) : State :=
  let s := placed 1#4 st 4 (at_ second 0)
  let s1 := s.setSteer { s.steer with utc := utc }
  s1.setClock { s1.clock with named := { s1.clock.named with top := some (at_ second 0) } }

/-- The leap seconds of Table 6-4, a second without a leap, and FAULT. -/
theorem witness_TopOfSecondMovesTimescale :
    ∀ st ∈ [NodeState.track, .fault], ∀ p ∈ [(820540838, false, true), (820540836, true, true), (820540837, false, false)],
      let u := (topping st p.1 ⟨37, true, p.2.1⟩).elapse zero
      u.pins.resetAsserted = false ∧ u.steer.nodeState.clocked = true ∧ u.clock.named.top = some (at_ p.1 0) ∧
        u.clock.reading.reached (at_ p.1 0) = true ∧ u.steer.utc.leapsAt p.1 = p.2.2 := by decide

/-- The pairs and channels of an output at a top of second: unpaired PULSE and TRAIN outputs in each gate phase, and a pair in
each phase, active and not. -/
theorem witness_TopOfSecondDrivesOutputs :
    (∀ cls ∈ [4, 9], ∀ ph ∈ [PairPhase.idle, .armed, .lead, .both, .closing],
      let u := (pairAt cls { PairState.reset with phase := ph } 5011).elapse zero
      u.pins.resetAsserted = false ∧ u.steer.nodeState.running = true ∧ u.clock.named.top = some (at_ 5011 0) ∧
        u.clock.reading.reached (at_ 5011 0) = true ∧ u.paired 0 = true ∧ u.paired 1 = true ∧ u.outs.first.phase = ph) ∧
      let s := pairAt 4 PairState.reset 5011
      ∀ mode ∈ [OutMode.pulse, .train], ∀ ph ∈ [GatePhase.muted, .armed, .running],
        let u := (s.setPort { s.port with record := s.port.record.map fun c => { c with
          outs := Vector.replicate 4 { mode := mode, pairing := false, floor := 4, rate := 0#4, width := 1 } } }).setOuts
            { s.outs with channels := Vector.replicate 4 { Channel.reset with phase := ph } }
        u.paired 2 = false ∧ (u.config.outs[2]).mode = mode ∧ u.outs.channels[2].phase = ph ∧ u.activeAlone 2 = true := by
  decide

/-- A CODE output in each gate phase, active and not; a pair in CLOSING whose marker is high; completions that find a pair's
phases and a CODE output in use. -/
theorem witness_TopOfSecondDrivesOutputs_more :
    (∀ cls ∈ [4, 15], ∀ ph ∈ [GatePhase.muted, .armed, .running],
      let u := ((pairAt cls PairState.reset 5011).modifyChannel 2 fun c => { c with phase := ph }).elapse zero
      u.paired 2 = false ∧ (u.config.outs[2]).mode = .code ∧ u.outs.channels[2].phase = ph ∧
        u.activeAlone 2 = decide (cls = 4)) ∧
      (∀ ph ∈ [PairPhase.idle, .armed, .lead, .both, .closing], ∀ n ∈ [100, 1],
        let s := deciding .track table41 n
        let u := s.setOuts { s.outs with first := { PairState.reset with phase := ph } }
        u.paired 0 = true ∧ u.outs.first.phase = ph ∧ u.round.flight.isSome = true) ∧
      let s := deciding .holdover table41 1
      let u := s.modifyChannel 2 fun c => { c with phase := .running }
      (take (.roundCompletion zero) u).outs.channels[2].phase = .muted := by decide

/-- R151, R153: a mute in the second that the current frame describes lets the MARK in progress complete; at the next second's
reading, its top still to be taken, no symbol of that frame is in progress, and the line is low before and after. -/
theorem witness_TopOfSecondDrivesOutputs_tail :
    let muting (t : Timestamp) : State :=
      let s := (deciding .track (slotsOf []) 1).setSteer { Steering.reset with nodeState := .track, accuracyClass := 4 }
      let s1 := (s.setClock { s.clock with reading := t }).setPort { s.port with record := s.port.record.map fun c => { c with
        growth := 40000, refEnable := false, outs := c.outs.set 2 { c.outs[2] with floor := 5 } } }
      (s1.setCode { s1.code with
        current := some { second := 1200#40, step := 0#8, symbols := List.replicate 50 .mark } }).modifyChannel 2 fun c =>
          { c with phase := .running }
    let t (r : Timestamp) := take (.roundCompletion zero) (muting r)
    (muting (at_ 1200 1120000000)).outLevel 2 = true ∧ (t (at_ 1200 1120000000)).outs.channels[2].phase = .muted ∧
      (t (at_ 1200 1120000000)).outs.channels[2].tail = some (at_ 1200 1180000000) ∧
      (muting (at_ 1201 0)).outLevel 2 = false ∧ (t (at_ 1201 0)).outs.channels[2].phase = .muted ∧
      (t (at_ 1201 0)).outs.channels[2].tail = none := by decide

theorem witness_HalfSecondComposesFrame :
    let s := placed 1#4 .track 4 (at_ 820540837 2000000000)
    let u := (s.setClock { s.clock with named := { s.clock.named with half := some (at_ 820540837 2000000000) } }).elapse zero
    u.pins.resetAsserted = false ∧ u.steer.nodeState.running = true ∧ u.clock.named.half = some (at_ 820540837 2000000000) ∧
      u.clock.reading.reached (at_ 820540837 2000000000) = true := by decide

/-- The half seconds before the inserted second, before the leap that ends it, before a deletion's leap and at the end of the
seconds count. -/
theorem witness_HalfSecondComposesFrame_leaps :
    ∀ p ∈ [(820540836, false, true, false), (820540837, false, false, true), (820540835, true, false, true),
        (1099511627775, false, false, false)],
      let s := placed 1#4 .track 4 (at_ p.1 2000000000)
      let s1 := s.setSteer { s.steer with utc := ⟨37, true, p.2.1⟩ }
      let u := (s1.setClock { s1.clock with named := { s1.clock.named with half := some (at_ p.1 2000000000) } }).elapse zero
      u.clock.reading.reached (at_ p.1 2000000000) = true ∧ u.steer.nodeState.running = true ∧
        u.steer.utc.inserted (((p.1 + 1) % 1099511627776 : Nat) : Int) = p.2.2.1 ∧
        u.steer.utc.leapsAt (((p.1 + 1) % 1099511627776 : Nat) : Int) = p.2.2.2 := by decide

/-- A train on OUT0, paired and in BOTH, at one of its edges. -/
def training (rising : Bool) (index cls : Nat) : State :=
  let s := placed 1#4 .track cls (at_ 5010 2008750000)
  (s.setOuts { s.outs with first := { PairState.reset with phase := .both } }).modifyChannel 0 fun c =>
    { c with high := !rising, edge := some { reading := at_ 5010 2008750000, rising := rising, index := index } }

theorem witness_TrainEdgeTaken :
    ∀ rising ∈ [false, true], ∀ n ∈ [2410, 4798, 4799], ∀ p ∈ [(4, true), (9, false)],
      let u := (training rising n p.1).elapse zero
      u.pins.resetAsserted = false ∧ u.steer.nodeState.running = true ∧
        u.outs.channels[0].edge = some { reading := at_ 5010 2008750000, rising := rising, index := n } ∧
        u.clock.reading.reached (at_ 5010 2008750000) = true ∧ u.active 0 = p.2 ∧ u.paired 0 = true ∧
        u.outs.first.phase = .both := by decide

theorem witness_RawChangeFilters :
    let u := watching.elapse zero; let v := (take (.rawChange zero 2 true) watching).elapse ⟨399, 0⟩
    (ready 2#4).steer.nodeState.clocked = false ∧
      u.pins.resetAsserted = false ∧ u.steer.nodeState.clocked = true ∧ 0 < u.config.glitch ∧
      u.capture.inputs[2].candidate = none ∧ u.capture.inputs[2].level = some false ∧
      (v.capture.inputs[2].candidate.map (·.held)) = some 399 ∧ v.capture.inputs[2].level = some false ∧
      100 * v.config.glitch = 400 := by decide

/-- Inputs without a filter: EV2 armed and not, over a FIFO with room and a full one. -/
theorem witness_RawChangeFilters_unfiltered :
    ∀ n ∈ [0, 31, 32], let s := filled n
      let u := s.setPort { s.port with record := s.port.record.map fun c => { c with glitch := 0 } }
      let t := take (.rawChange zero 2 true) u
      u.config.glitch = 0 ∧ u.capture.inputs[2].candidate = none ∧ u.capture.inputs[2].level = some false ∧
        u.capture.arm0 = some .armed ∧ t.capture.arm0 = some .disarmed ∧ t.capture.fifo.length = min 32 (n + 1) ∧
        t.capture.lossPending = decide (n = 32) := by decide

/-- An input whose candidate has held for the filter time, over a FIFO of a number of records: EV2 (RISE, group 0), EV3 (FALL,
group 0), EV5 (BOTH, no group) or EV0 (NONE). -/
def edging (i : Fin 8) (arm : ArmState) (n : Nat) : State :=
  let s := filled n
  s.setCapture { s.capture with
    arm0 := some arm
    inputs := s.capture.inputs.set i
      { s.capture.inputs[i] with candidate := some { snapshot := s.snapshot, held := 400 } } i.isLt }

theorem witness_FilteredEdgeCaptures :
    ∀ i ∈ [(0 : Fin 8), 2, 3, 5], ∀ arm ∈ [ArmState.armed, .disarmed], ∀ n ∈ [0, 31, 32],
      let u := (edging i arm n).elapse zero
      u.pins.resetAsserted = false ∧ u.steer.nodeState.clocked = true ∧ u.capture.inputs[i].candidate.isSome = true ∧
        u.capture.inputs[i].level = some (decide (i = 3)) ∧ 100 * u.config.glitch ≤ 400 ∧ u.capture.fifo.length = n := by decide

/-- A part whose queue is empty and to which everything is due: a gate end, a monitor top, the top of second of this instant,
a pulse end 200 qns ago, and filtered edges of EV5 (longest held) and EV2. -/
def idling : State :=
  let s := expiring (at_ 5001 399999800)
  let s1 := s.setMonitor { s.monitor with gatePosition := 1024, topDue := true }
  let s2 := s1.setClock { s1.clock with named := { s1.clock.named with top := some (at_ 5001 400000000) } }
  let held (n : Nat) : EventInput := { level := some false, candidate := some { snapshot := s.snapshot, held := n } }
  s2.setCapture { s2.capture with inputs := (s2.capture.inputs.set 2 (held 400)).set 5 (held 401) }

/-- R7, R158: the events that idle time raises stand in the order of their instants. -/
theorem test_raised :
    idling.raised = [.gateEnd zero, .monitorTop zero, .anchorTimeExpiry zero, .leapGuardExpiry zero, .pulseEnd zero 1,
      .topOfSecond zero, .filteredEdge zero 5, .filteredEdge zero 2] := by decide

/-- Every kind of event at the boundary of being due, and a part that is held. -/
theorem witness_EmptyQueueIdles :
    idling.pending = [] ∧ idling.pins.resetAsserted = false ∧ idling.monitor.gatePosition = 1024 ∧
      idling.monitor.topDue = true ∧ idling.steer.nodeState.clocked = true ∧
      idling.sinceInstant (.topOfSecond zero) = some 0 ∧ idling.sinceInstant (.pulseEnd zero 1) = some 200 ∧
      (idling.capture.inputs[2].candidate.map (·.held)) = some (100 * idling.config.glitch) ∧
      (missAt .valid 0 0).sinceInstant (.missInstant zero) = some 0 ∧
      (missAt .valid 0 1).sinceInstant (.missInstant zero) = some (-1) ∧
      heldPart.pins.resetAsserted = true ∧ State.reset.pending = [] := by decide

theorem witness_ReadsAnswer :
    (State.reset.elapse zero).pins.resetAsserted = false ∧ ((filled 1).elapse zero).pins.resetAsserted = false := by decide

/-- R171: a part in LISTEN after a power-on reset, strap id 2 VALID, record held and locked, REF ABSENT, no condition, an empty
FIFO and port A DOWN. -/
theorem witness_ReadsAnswer_status :
    (take (.readStatus zero) (started 2#4)).port.dataOut.take 20 =
      [0#8, 1#8, 2#8, 0#8, 2#8, 1#8, 1#8, 1#8, 0#8, 0#8, 0#8, 0#8, 0#8, 0#8, 0#8, 0#8, 0#8, 0#8, 1#8, 0#8] := by decide

theorem witness_ClearClearsSelected :
    let u := (filled 1).elapse zero
    u.pins.resetAsserted = false ∧ (0x1000#32).getLsbD 12 = true ∧ (0x0002#16).getLsbD 1 = true := by decide

theorem witness_ReadCaptureAnswers :
    ((filled 1).elapse zero).pins.resetAsserted = false ∧ ((filled 1).elapse zero).capture.fifo ≠ [] ∧
      ((filled 0).elapse zero).capture.fifo = [] := by decide

/-- Table 9-2: a rise at input 5, read as the only record. -/
theorem witness_ReadCaptureAnswers_record :
    let s := filled 1
    let x := s.snapshot
    (take (.readCapture zero) s).port.dataOut = [0#8, 1#8, 5#8, 0#8] ++ beBytes 5 x.stamp.seconds ++
      beBytes 4 (x.stamp.fraction / 4 : Nat) ++ beBytes 1 (x.stamp.fraction % 4 : Nat) ++
      [BitVec.ofNat 8 x.accuracyClass, 2#8, x.step, 0#8, 0#8] := by decide

theorem witness_LoadConfigJudges :
    record.length = 86 ∧ ((ready 2#4).elapse zero).steer.nodeState = .config ∧
      ((started 2#4).elapse zero).steer.nodeState ≠ .config ∧ refusalOffset record = none ∧
      refusalOffset (record.set 85 0x03#8) = some 85 ∧ refusalOffset (record.set 11 0x3B#8) = some 11 ∧
      clampCount record = 0 ∧ clampCount (record.set 9 40#8) = 1 := by decide

theorem witness_AcceptedRecordIsInRange : record.length = 86 ∧ ∀ i, i < 86 → offends record i = false := by decide

/-- Table 10-4, R173: fields as `record` lays them out; a slew limit of 0 and a step threshold below it are both clamped; and
each kind of refusal at its byte. -/
theorem witness_AcceptedRecordIsInRange_fields :
    let l := record.take 14 ++ beBytes 4 0 ++ beBytes 4 0 ++ record.drop 22
    cfg.group = 0x0180C2000020#48 ∧ cfg.slewLimit = 10000 ∧ cfg.lamp[1] = 3#4 ∧ cfg.outs[1].width = 100 ∧
      (ConfigRecord.ofBytes l).slewLimit = 1 ∧ (ConfigRecord.ofBytes l).stepThreshold = 1 ∧ clampCount l = 2 ∧
      offends (record.set 70 0xAA#8) 70 = true ∧ offends record 70 = false ∧
      offends (record.set 62 0x36#8) 62 = true ∧ offends (record.set 66 0x47#8) 62 = true ∧
      offends (record.set 70 0x50#8) 70 = true ∧ offends (record.set 80 0x0E#8) 80 = true ∧
      offends (record.set 80 0x07#8) 80 = true ∧ offends (record.set 11 0x39#8) 11 = true := by decide

/-- Node 2 of N = 12, f = 1 starts; ids from 12, and f = 4, are refused; and so are a part without a record and one that is
not in CONFIG. -/
theorem witness_StartBeginsListen :
    let u := (ready 2#4).elapse zero
    u.pins.resetAsserted = false ∧ u.steer.nodeState = .config ∧ u.port.record = some cfg ∧ u.port.strapValid = .valid ∧
      3 * cfg.tolerance + 1 ≤ cfg.nodes ∧ (11#4).toNat < cfg.nodes ∧ cfg.nodes ≤ (12#4).toNat ∧
      cfg.nodes < 3 * 4 + 1 ∧ (started 2#4).steer.nodeState ≠ .config ∧ State.reset.port.record = none := by decide

/-- R144, R164: START ends the dark time of a lamp (log entry 36) and leaves the Capture Unit's overflow count and marks. -/
theorem witness_StartBeginsListen_rest :
    let s := ready 2#4
    let s1 := s.setOuts { s.outs with channels := s.outs.channels.set 3 { s.outs.channels[3] with dark := true } }
    let t := take (.start zero) (s1.setCapture { s1.capture with overflow := 3, lossPending := true, underrun := true })
    s1.outs.channels[3].dark = true ∧ t.steer.nodeState = .listen ∧ t.outs.channels[3].dark = false ∧
      t.capture.overflow = 3 ∧ t.capture.lossPending = true ∧ t.capture.underrun = true := by decide

/-- R158: with EV2 (RISE) low, group 0 is armed exactly while EV3 (FALL) stands high; group 1 has no members. -/
theorem witness_StartBeginsListen_arms :
    let s := (ready 2#4).setEventPin 3 true
    (take (.start zero) s).capture.arm0 = some .armed ∧ (started 2#4).capture.arm0 = some .disarmed ∧
      (started 2#4).capture.arm1 = some .armed := by decide

theorem witness_AnchorTimePends :
    let u := (started 2#4).elapse zero
    u.pins.resetAsserted = false ∧ u.config.refEnable = true ∧ u.steer.nodeState.running = true ∧
      (ready 2#4).steer.nodeState.running = false ∧ (1000#16).toInt = 1000 ∧ (1001#16).toInt = 1001 ∧
      (0xFC18#16).toInt = -1000 ∧ (0xFC17#16).toInt = -1001 := by decide

theorem witness_MalformedTransactionsReport :
    ((started 2#4).elapse zero).pins.resetAsserted = false ∧ argumentLength 0x06#8 = none ∧
      transactionIncomplete [] = true ∧ transactionIncomplete [0x14#8, 0#8, 0#8, 0#8, 0#8, 0#8, 0#8, 0#8] = true := by decide

/-- R168, R169: a REF pulse 25 cycles into a window that turns out malformed 75 cycles later is taken with its own stamp, as
without the transaction, and COMMAND is set at the report. -/
theorem witness_MalformedTransactionsReport_held :
    let t := take (.unknownCommand ⟨[.refPulse ⟨25, 0⟩], ⟨75, 0⟩⟩ 0x06#8) qualifying
    EventsTaken [.refPulse ⟨25, 0⟩] qualifying (take (.refPulse ⟨25, 0⟩) qualifying) ∧ t.ref.state = .valid ∧
      t.ref.lastPulse = some (at_ 505 1016) ∧ t.clock.reading = at_ 505 4016 ∧ t.cond.flags = 0x8000#16 ∧
      t.port.dataOut = [0#8, 3#8] :=
  ⟨⟨_, rfl, rfl⟩, by decide, by decide, by decide, by decide, by decide⟩

/-- Held and not; a lamp; a CODE output at the last qns of the high of its first symbol, a MARK, and at its fall. -/
theorem witness_AlertFollowsFlags :
    heldPart.pins.resetAsserted = true ∧ watching.pins.resetAsserted = false ∧ watching.config.outs[3].mode = .lamp ∧
      ∀ p ∈ [(59999999, true), (60000000, false)],
        let s := placed 1#4 .track 4 (at_ 5000 p.1)
        let s1 := (s.setCode { s.code with
          current := some { second := 5000#40, step := 0#8, symbols := List.replicate 50 .mark } }).modifyChannel 2 fun c =>
            { c with phase := .running }
        s1.config.outs[2].mode = .code ∧ s1.outLevel 2 = p.2 := by decide

/-- A tick with 15 echo entries, of every peer but node 5. -/
def fullTick : Option Tick := tick5.map fun t => { t with
  echoes := ((List.range 16).filter fun i => i ≠ 5).map fun i =>
    { peer := BitVec.ofNat 4 i, round16 := 1#4, nanos := 7#30, quarter := 3#2, seconds := 200#8 } }

theorem witness_TickRoundTrip :
    (fullTick.map fun t => decide (t.echoes.length = 15) && echoesAscend t.echoes && decide (t.ensemble = cfg.ensemble)
        && decide (t.period = cfg.roundCode) && decide (t.sender.toNat < cfg.nodes) && decide (t.sender ≠ 9#4)) = some true ∧
      cfg.typeCode ≠ 0x8100#16 := by decide +kernel

/-- The tick of 15 entries at node 9, which is configured like node 5 but is none of its peers' own. -/
theorem witness_SentFrameIsValid :
    (fullTick.map fun t => decide (t.echoes.length ≤ 15) && echoesAscend t.echoes && decide (t.ensemble = cfg.ensemble)
        && decide (t.period = cfg.roundCode) && decide (t.sender.toNat < cfg.nodes) && decide (t.sender ≠ 9#4)) = some true ∧
      cfg.typeCode ≠ 0x8100#16 := by decide +kernel

theorem witness_TransactionRoundTrip :
    ∀ i ∈ [Instr.readTime zero, .readPeer zero 9#8, .loadConfig zero record, .clear zero 1#32 2#16,
        .anchorTime zero 3#40 4#16 5#8, .unknownCommand ⟨[.refPulse zero], zero⟩ 0x15#8, .transactionCutShort alone [0x10#8]],
      WellFormed i = true ∧ (encodeTransaction i).isSome = true := by decide

theorem witness_FaultLastsUntilReset :
    let s := (gated .fault 0 0).setPending [.start zero]
    s.steer.nodeState = .fault ∧ (∀ c rest, s.pending = c :: rest → isReset c = false) :=
  ⟨by decide, by intro c rest h; cases h; rfl⟩

theorem witness_EveryStepIsReported :
    isReset (.refPulse zero) = false ∧ (∀ e, Instr.refPulse zero ≠ .start e) ∧ (Instr.refPulse zero).window.held = [] ∧
      (take (.refPulse zero) anchoring).clock.stepCount = anchoring.clock.stepCount + 1#8 :=
  ⟨rfl, (by intro e h; cases h), rfl, by decide⟩

/-- R169: a STEP by an anchor time whose pulse a malformed window held back. -/
theorem witness_EveryStepIsReported_held :
    let c : Instr := .argumentWindowOverrun ⟨[.refPulse zero], zero⟩ [0x14#8]
    isReset c = false ∧ (∀ e, c ≠ .start e) ∧ c.window.held ≠ [] ∧
      (take c anchoring).clock.stepCount = anchoring.clock.stepCount + 1#8 ∧ (take c anchoring).flag 2 = true :=
  ⟨rfl, (by intro e h; cases h), (by intro h; cases h), by decide, by decide⟩

theorem witness_RecordIsLocked :
    let s := (started 2#4).setPending [.loadConfig zero record]
    s.steer.nodeState.clocked = true ∧ isReset (.loadConfig zero record) = false ∧
      (∀ c rest, s.pending = c :: rest → isReset c = false) ∧ ∃ t, step s = .next t :=
  ⟨by decide, rfl, by intro c rest h; cases h; rfl, _, rfl⟩

/-- A part in ANCHORED, steered by REF, that answers a next state and meets every invariant. -/
theorem witness_EveryStepKeepsBounds :
    let s := placed 1#4 .anchored 4 (at_ 5 0)
    let t := (s.setSteer { s.steer with refSelected := true }).setPending [.readTime zero]
    t.RateBounded ∧ t.FifoBounded ∧ t.slots[t.ownId].liveness = .vacant ∧ t.port.strapValid = .valid ∧ t.RefSelectedFits ∧
      (∃ v, step t = .next v) :=
  ⟨⟨by decide, by decide⟩, ⟨by decide, by decide⟩, by decide, by decide, ⟨by decide, by decide⟩, _, rfl⟩

theorem witness_EveryStepKeepsRecordLawful :
    let s := placed 1#4 .anchored 4 (at_ 5 0)
    let t := (s.setSteer { s.steer with refSelected := true }).setPending [.readTime zero]
    t.slots[t.ownId].liveness = .vacant ∧ t.port.strapValid = .valid ∧ t.RefSelectedFits ∧ (∃ v, step t = .next v) :=
  ⟨by decide, by decide, ⟨by decide, by decide⟩, _, rfl⟩

end Sys2Proof.Tests
end

section
/-! SUPPORT. What each command can do, said once: the operation that it performs on the state its time leaves, with the guard
under which it does so. The invariants are proved along these cases. -/

namespace Sys2Proof.Machine

/-! ## What an event can do -/

/-- What an event that an argument window can hold back (R168) makes of the state `u` in which its time has passed. -/
inductive EventTakes (u : State) : State → Prop where
  | stay : EventTakes u u
  | straps (due : u.strapsDue = true) (straps : BitVec 4) : EventTakes u (u.takeStraps straps)
  | gate (due : u.gateDue = true) : EventTakes u u.takeGate
  | monitorTop (free : u.held = false) : EventTakes u u.takeMonitorTop
  | linkDrop (port : PortId) (receiving : Bool) : EventTakes u (u.dropLink port receiving)
  | linkUp (port : PortId) : EventTakes u (u.raiseLink port)
  | transmit (run : u.running = true) (t : Timestamp) : EventTakes u (u.takeTransmit t)
  | egress (run : u.running = true) (port : PortId) :
    EventTakes u (u.modifyPort port (·.egress u.config u.port.strapId port u.clock.reading u.clock.stepCount))
  | txComplete (run : u.running = true) (port : PortId) :
    EventTakes u (u.modifyPort port (·.txComplete u.clock.stepCount))
  | frame (run : u.running = true) (port : PortId) (bytes : List Byte) : EventTakes u (u.takeFrame port bytes)
  | close (run : u.running = true) (t : Timestamp) : EventTakes u (u.takeClose t)
  | completion (run : u.running = true) (f : Flight) : EventTakes u (u.complete f)
  | slewEnd (run : u.running = true) : EventTakes u u.settleSlew
  | pulse (run : u.running = true) : EventTakes u u.takePulse
  | miss (run : u.running = true) : EventTakes u u.takeMiss
  | anchorExpiry (run : u.running = true) : EventTakes u (u.setRef { u.ref with pendingTime := none })
  | top (run : u.clocked = true) (t : Timestamp) : EventTakes u (u.takeTop t)
  | half (run : u.running = true) (t : Timestamp) : EventTakes u (u.takeHalf t)
  | channel (run : u.running = true) (k : Fin 4) (f : Channel → Channel) : EventTakes u (u.modifyChannel k f)
  | guardExpiry (run : u.clocked = true) : EventTakes u (u.setSteer { u.steer with leapGuard := none })
  | pin (i : Fin 8) (level : Bool) : EventTakes u (u.setEventPin i level)
  | raw (run : u.clocked = true) (i : Fin 8) (level : Bool) : EventTakes u ((u.setEventPin i level).rawChange i level)
  | filtered (run : u.clocked = true) (i : Fin 8) : EventTakes u (u.takeFiltered i)

/-- What a well-formed host command other than START makes of the state `u` in which its time has passed. -/
inductive HostTakes (u : State) : State → Prop where
  | stay : HostTakes u u
  | answer (free : u.held = false) (sent : Nat) (code : ResponseCode) (data : List Byte) :
    HostTakes u (u.respond sent code data)
  | status (free : u.held = false) (data : List Byte) : HostTakes u (u.respond 1 .accept data).clearUnderrun
  | capture (free : u.held = false) : HostTakes u u.readFifo
  | load (free : u.held = false) (record : List Byte) : HostTakes u (u.loadRecord record)
  | restart (free : u.held = false) :
    HostTakes u ((u.setPort { u.port with restartArmed := true }).respond 1 .accept [])
  | clear (free : u.held = false) (conditions : BitVec 32) (slots : BitVec 16) : HostTakes u (u.clearAll conditions slots)
  | anchorTime (free : u.held = false) (seconds : BitVec 40) (utcOffset : BitVec 16) (flags : Byte) :
    HostTakes u (u.takeAnchorTime seconds utcOffset flags)

/-- What the report of a malformed transaction (R169) makes of the state `u` at its instant. -/
inductive ReportTakes (u : State) : State → Prop where
  | stay : ReportTakes u u
  | unknown (free : u.held = false) : ReportTakes u ((u.report .command).respond 1 .refuseArg [])
  | malformed (free : u.held = false) (sent : Nat) : ReportTakes u (u.malformed sent)

theorem EventTakes.ite {u t : State} {b : Bool} (h : b = true → EventTakes u t) : EventTakes u (if b then t else u) := by
  cases b
  · exact .stay
  · exact h rfl

theorem HostTakes.unless {u t : State} (h : u.held = false → HostTakes u t) : HostTakes u (if u.held then u else t) := by
  cases hh : u.held
  · exact h hh
  · exact .stay

/-- The line of an event input always takes its level; the change is watched while the clock runs (R155, R156). -/
theorem EventTakes.rawChange (u : State) (i : Fin 8) (level : Bool) :
    EventTakes u (if (u.setEventPin i level).clocked then (u.setEventPin i level).rawChange i level
      else u.setEventPin i level) := by
  by_cases h : u.clocked = true
  · rw [if_pos (show (u.setEventPin i level).clocked = true from h)]; exact .raw h i level
  · rw [if_neg (show ¬(u.setEventPin i level).clocked = true from h)]; exact .pin i level

theorem running_of_refActs {s : State} (h : s.refActs = true) : s.running = true := by
  simp only [State.refActs, Bool.and_eq_true] at h
  exact h.2

theorem running_of_missReached {s : State} (h : s.missReached = true) : s.running = true := by
  simp only [State.missReached, State.pastMiss] at h
  split at h
  · next hr => exact running_of_refActs hr.1
  · simp at h

/-- A held back event performs one of the operations of `EventTakes` once its time has passed. -/
theorem execHeld_takes (h : HeldEvent) (s : State) :
    ∃ t, execHeld h s = .next t ∧ EventTakes (s.elapse h.toInstr.elapsed) t := by
  cases h with
  | strapSample e straps => exact ⟨_, rfl, .ite fun h => .straps h straps⟩
  | gateEnd e => exact ⟨_, rfl, .ite fun h => .gate h⟩
  | monitorTop e =>
    refine ⟨_, rfl, .ite fun h => .monitorTop ?_⟩
    simp only [Bool.and_eq_true, Bool.not_eq_true'] at h
    exact h.1
  | linkDrop e port receiving => exact ⟨_, rfl, .linkDrop port receiving⟩
  | linkUp e port => exact ⟨_, rfl, .linkUp port⟩
  | transmitInstant e =>
    simp only [execHeld, execTransmitInstant]
    split
    · exact ⟨_, rfl, .stay⟩
    · exact ⟨_, rfl, .ite fun h => .transmit (Bool.and_eq_true_iff.mp h).1 _⟩
  | tickEgress e port => exact ⟨_, rfl, .ite fun h => .egress h port⟩
  | tickTxComplete e port => exact ⟨_, rfl, .ite fun h => .txComplete h port⟩
  | frameReceive e port bytes => exact ⟨_, rfl, .ite fun h => .frame (Bool.and_eq_true_iff.mp h).1 port bytes⟩
  | roundClose e =>
    simp only [execHeld, execRoundClose]
    split
    · exact ⟨_, rfl, .stay⟩
    · exact ⟨_, rfl, .ite fun h => .close (Bool.and_eq_true_iff.mp (Bool.and_eq_true_iff.mp h).1).1 _⟩
  | roundCompletion e =>
    simp only [execHeld, execRoundCompletion]
    split
    · exact ⟨_, rfl, .stay⟩
    · exact ⟨_, rfl, .ite fun h => .completion h _⟩
  | slewEnd e =>
    simp only [execHeld, execSlewEnd]
    split
    · exact ⟨_, rfl, .stay⟩
    · exact ⟨_, rfl, .ite fun h => .slewEnd (Bool.and_eq_true_iff.mp h).1⟩
  | refPulse e => exact ⟨_, rfl, .ite fun h => .pulse (running_of_refActs h)⟩
  | missInstant e => exact ⟨_, rfl, .ite fun h => .miss (running_of_missReached h)⟩
  | anchorTimeExpiry e =>
    simp only [execHeld, execAnchorTimeExpiry]
    split
    · exact ⟨_, rfl, .stay⟩
    · exact ⟨_, rfl, .ite fun h => .anchorExpiry (Bool.and_eq_true_iff.mp h).1⟩
  | topOfSecond e =>
    simp only [execHeld, execTopOfSecond]
    split
    · exact ⟨_, rfl, .stay⟩
    · exact ⟨_, rfl, .ite fun h => .top (Bool.and_eq_true_iff.mp h).1 _⟩
  | halfSecond e =>
    simp only [execHeld, execHalfSecond]
    split
    · exact ⟨_, rfl, .stay⟩
    · exact ⟨_, rfl, .ite fun h => .half (Bool.and_eq_true_iff.mp h).1 _⟩
  | pulseEnd e out =>
    simp only [execHeld, execPulseEnd]
    split
    · exact ⟨_, rfl, .stay⟩
    · exact ⟨_, rfl, .ite fun h => .channel (Bool.and_eq_true_iff.mp h).1 out _⟩
  | trainEdge e out =>
    simp only [execHeld, execTrainEdge]
    split
    · exact ⟨_, rfl, .stay⟩
    · exact ⟨_, rfl, .ite fun h => .channel (Bool.and_eq_true_iff.mp h).1 out _⟩
  | leapGuardExpiry e =>
    simp only [execHeld, execLeapGuardExpiry]
    split
    · exact ⟨_, rfl, .stay⟩
    · exact ⟨_, rfl, .ite fun h => .guardExpiry (Bool.and_eq_true_iff.mp h).1⟩
  | rawChange e input level =>
    exact ⟨_, rfl, .rawChange (s.elapse e) input level⟩
  | filteredEdge e input => exact ⟨_, rfl, .ite fun h => .filtered h input⟩

/-! ## What a command can do -/

/-- The state that held back events leave, each taken by one of the operations of `EventTakes`. -/
inductive Events : List HeldEvent → State → State → Prop where
  | nil (s : State) : Events [] s s
  | cons {h : HeldEvent} {rest : List HeldEvent} {s t v : State} (first : EventTakes (s.elapse h.toInstr.elapsed) t)
    (then_ : Events rest t v) : Events (h :: rest) s v

/-- What follows the held back events runs on the state they leave. -/
theorem takeHeld_events (held : List HeldEvent) (s : State) (follow : State → State) :
    ∃ v, Events held s v ∧ takeHeld held s follow = .next (follow v) := by
  induction held generalizing s with
  | nil => exact ⟨s, .nil s, rfl⟩
  | cons h rest ih =>
    obtain ⟨t, ht, htakes⟩ := execHeld_takes h s
    obtain ⟨v, hv, hr⟩ := ih t
    exact ⟨v, .cons htakes hv, by simp only [takeHeld, ht]; exact hr⟩

/-- The report of a malformed transaction comes after what its window held back (R169). -/
theorem reportAfter_takes (w : Window) (m : Bool) (s : State) (report : State → State)
    (hr : ∀ u : State, u.held = false → ReportTakes u (report u)) :
    ∃ v t, Events w.held s v ∧ reportAfter w m s report = .next t ∧ ReportTakes (v.elapse w.rest) t := by
  obtain ⟨v, hv, ht⟩ := takeHeld_events w.held s fun v =>
    let u := v.elapse w.rest
    if u.held || !m then u else report u
  refine ⟨v, _, hv, ht, ?_⟩
  by_cases h : ((v.elapse w.rest).held || !m) = true
  · simp only [if_pos h]; exact .stay
  · simp only [if_neg h]
    simp only [Bool.or_eq_true, not_or, Bool.not_eq_true] at h
    exact hr _ h.1

/-- What a command that is neither a reset nor START does: what its window held back is taken, its own time passes, and then comes
the report of a malformed transaction; or, where no event was held back, the operation of a host command or of an event. -/
theorem exec_takes (c : Instr) (s : State) (hc : isReset c = false) (hs : ∀ e, c ≠ .start e) :
    ∃ v t, Events c.window.held s v ∧ exec c s = .next t ∧
      (ReportTakes (v.elapse c.elapsed) t ∨
        c.window.held = [] ∧ (HostTakes (v.elapse c.elapsed) t ∨ EventTakes (v.elapse c.elapsed) t)) := by
  have event (h : HeldEvent) : ∃ v t, Events [] s v ∧ exec h.toInstr s = .next t ∧
      (ReportTakes (v.elapse h.toInstr.elapsed) t ∨
        [] = ([] : List HeldEvent) ∧ (HostTakes (v.elapse h.toInstr.elapsed) t ∨ EventTakes (v.elapse h.toInstr.elapsed) t)) := by
    obtain ⟨t, ht, htakes⟩ := execHeld_takes h s
    exact ⟨s, t, .nil s, by rw [exec_toInstr, ht], .inr ⟨rfl, .inr htakes⟩⟩
  cases c with
  | supplyReset e straps => cases hc
  | resetPinAssert e => cases hc
  | resetPinRelease e straps => cases hc
  | commandReset e straps => cases hc
  | strapSample e straps => exact event (.strapSample e straps)
  | gateEnd e => exact event (.gateEnd e)
  | monitorTop e => exact event (.monitorTop e)
  | linkDrop e port receiving => exact event (.linkDrop e port receiving)
  | linkUp e port => exact event (.linkUp e port)
  | transmitInstant e => exact event (.transmitInstant e)
  | tickEgress e port => exact event (.tickEgress e port)
  | tickTxComplete e port => exact event (.tickTxComplete e port)
  | frameReceive e port bytes => exact event (.frameReceive e port bytes)
  | roundClose e => exact event (.roundClose e)
  | roundCompletion e => exact event (.roundCompletion e)
  | slewEnd e => exact event (.slewEnd e)
  | refPulse e => exact event (.refPulse e)
  | missInstant e => exact event (.missInstant e)
  | anchorTimeExpiry e => exact event (.anchorTimeExpiry e)
  | topOfSecond e => exact event (.topOfSecond e)
  | halfSecond e => exact event (.halfSecond e)
  | pulseEnd e out => exact event (.pulseEnd e out)
  | trainEdge e out => exact event (.trainEdge e out)
  | leapGuardExpiry e => exact event (.leapGuardExpiry e)
  | rawChange e input level => exact event (.rawChange e input level)
  | filteredEdge e input => exact event (.filteredEdge e input)
  | readTime e => exact ⟨s, _, .nil s, rfl, .inr ⟨rfl, .inl (.unless fun h => .answer h _ _ _)⟩⟩
  | readStatus e => exact ⟨s, _, .nil s, rfl, .inr ⟨rfl, .inl (.unless fun h => .status h _)⟩⟩
  | readRound e => exact ⟨s, _, .nil s, rfl, .inr ⟨rfl, .inl (.unless fun h => .answer h _ _ _)⟩⟩
  | readPeer e id =>
    refine ⟨s, _, .nil s, rfl, .inr ⟨rfl, .inl (.unless fun h => ?_)⟩⟩
    unfold State.readPeerSlot
    split <;> exact .answer h _ _ _
  | readCapture e => exact ⟨s, _, .nil s, rfl, .inr ⟨rfl, .inl (.unless fun h => .capture h)⟩⟩
  | loadConfig e record => exact ⟨s, _, .nil s, rfl, .inr ⟨rfl, .inl (.unless fun h => .load h record)⟩⟩
  | start e => exact absurd rfl (hs e)
  | restart e => exact ⟨s, _, .nil s, rfl, .inr ⟨rfl, .inl (.unless fun h => .restart h)⟩⟩
  | clear e conditions slots => exact ⟨s, _, .nil s, rfl, .inr ⟨rfl, .inl (.unless fun h => .clear h conditions slots)⟩⟩
  | anchorTime e seconds utcOffset flags =>
    exact ⟨s, _, .nil s, rfl, .inr ⟨rfl, .inl (.unless fun h => .anchorTime h seconds utcOffset flags)⟩⟩
  | unknownCommand w code =>
    obtain ⟨v, t, hv, ht, htakes⟩ := reportAfter_takes w (argumentLength code).isNone s _ fun u h => .unknown h
    exact ⟨v, t, hv, ht, .inl htakes⟩
  | transactionCutShort w sent =>
    obtain ⟨v, t, hv, ht, htakes⟩ := reportAfter_takes w (transactionIncomplete sent) s _ fun u h => .malformed h sent.length
    exact ⟨v, t, hv, ht, .inl htakes⟩
  | argumentWindowOverrun w sent =>
    obtain ⟨v, t, hv, ht, htakes⟩ := reportAfter_takes w (transactionIncomplete sent) s _ fun u h => .malformed h sent.length
    exact ⟨v, t, hv, ht, .inl htakes⟩

end Sys2Proof.Machine
end

section
/-! SUPPORT. The cases of the operations that branch, and the fields that each leaves alone. -/

namespace Sys2Proof.Machine

variable (s : State)

/-! ## Condition flags only grow by reports (R165) -/

/-- The FAULT flag is as before and no condition flag is lost. -/
def ConditionBlock.Grows (c d : ConditionBlock) : Prop :=
  d.fault = c.fault ∧ ∀ i, c.flags.getLsbD i = true → d.flags.getLsbD i = true

theorem ConditionBlock.Grows.refl (c : ConditionBlock) : c.Grows c := ⟨rfl, fun _ h => h⟩

theorem ConditionBlock.Grows.trans {a b c : ConditionBlock} (h : a.Grows b) (h' : b.Grows c) : a.Grows c :=
  ⟨h'.1.trans h.1, fun i hi => h'.2 i (h.2 i hi)⟩

theorem State.report_grows (c : Condition) : s.cond.Grows (s.report c).cond := ⟨rfl, s.report_keeps c⟩

theorem State.reportIf_grows (b : Bool) (c : Condition) : s.cond.Grows (s.reportIf b c).cond := by
  cases b
  · exact .refl _
  · exact s.report_grows c

/-! ## Link ports (R25, R31 to R36) -/

@[simp] theorem LinkPort.cutShort_history (p : LinkPort) : p.cutShort.history = p.history := by
  unfold LinkPort.cutShort; split <;> rfl

@[simp] theorem LinkPort.drop_history (p : LinkPort) (b : Bool) : (p.drop b).history = p.history := by
  cases b <;> simp [LinkPort.drop]

@[simp] theorem LinkPort.egress_history (p : LinkPort) (cfg : ConfigRecord) (id : BitVec 4) (port : PortId) (t : Timestamp)
    (step : BitVec 8) : (p.egress cfg id port t step).history = p.history := by
  unfold LinkPort.egress
  split
  · rfl
  · split <;> rfl

/-- The transmit instant only takes entries out of a history (R36). -/
theorem LinkPort.transmit_history (p : LinkPort) (n : BitVec 32) (tx : Transmission) :
    (p.transmit n tx).history = pruneHistory p.history n := by
  unfold LinkPort.transmit
  split <;> rfl

/-- A tick that has left adds its entry and leaves at most two (R36). -/
theorem LinkPort.txComplete_history (p : LinkPort) (step : BitVec 8) :
    (p.txComplete step).history = p.history ∨ (p.txComplete step).history.length ≤ 2 := by
  unfold LinkPort.txComplete
  split
  · exact .inl rfl
  · split
    · exact .inl rfl
    · right
      simp only [LinkPort.bump_history, lastTwo, List.length_drop]
      omega

theorem State.dropLink_cases (port : PortId) (receiving : Bool) :
    s.dropLink port receiving = s.setLinkPin port false ∨ ∃ b, s.followsLink = true ∧
      s.dropLink port receiving = ((s.setLinkPin port false).modifyPort port (·.drop b)).report .link := by
  unfold State.dropLink
  by_cases h : (s.followsLink && (s.ports.get port).up) = true
  · exact .inr ⟨_, (Bool.and_eq_true_iff.mp h).1, if_pos h⟩
  · exact .inl (if_neg h)

theorem State.raiseLink_cases (port : PortId) :
    s.raiseLink port = s.setLinkPin port true ∨ s.followsLink = true ∧
      s.raiseLink port = (s.setLinkPin port true).modifyPort port fun p => { p with up := true } := by
  unfold State.raiseLink
  by_cases h : s.followsLink = true
  · exact .inr ⟨h, if_pos h⟩
  · exact .inl (if_neg h)

/-! ## Received frames (R38 to R44) -/

/-- A frame moves counters and reports, or its copy is accepted. -/
theorem State.takeFrame_cases (port : PortId) (bytes : List Byte) :
    (∃ c b k, s.takeFrame port bytes = (s.bumpPort port c).reportIf b k) ∨
    (∃ c i d b k, s.takeFrame port bytes = ((s.bumpPort port c).bumpSlot i d).reportIf b k) ∨
    ∃ t kind round, s.takeFrame port bytes = s.acceptCopy port t kind round := by
  unfold State.takeFrame State.filterFrame
  split
  · split
    · exact .inl ⟨_, _, _, rfl⟩
    · next t payload _ =>
      split
      · simp only [State.judgeCopy]
        split
        · simp only [State.placeCopy]
          split
          · exact .inr (.inl ⟨_, _, _, false, .late, rfl⟩)
          · exact .inr (.inr ⟨_, _, _, rfl⟩)
        · exact .inr (.inl ⟨_, _, _, true, _, rfl⟩)
      · exact .inr (.inl ⟨_, _, _, true, _, rfl⟩)
  · exact .inl ⟨_, false, .late, rfl⟩

/-- An accepted copy moves counters of its port and its sender's slot (R44, R48). -/
theorem State.acceptCopy_frame (port : PortId) (t : Tick) (kind : Attribution) (round : BitVec 32) :
    ∃ ports : Pair LinkPort, (∀ p, (ports.get p).history = (s.ports.get p).history) ∧
      s.acceptCopy port t kind round = (s.setPorts ports).modifySlot t.sender.toFin fun x =>
        x.accept s.config s.steer.nodeState (s.ports.get port).history port (s.copyOf t kind round) := by
  have hb (u : State) (c : PortCounter) (p : PortId) : ((u.bumpPort port c).ports.get p).history = (u.ports.get p).history := by
    rw [State.bumpPort, State.modifyPort_get]
    split <;> simp
  unfold State.acceptCopy
  by_cases h : t.port = port
  · simp only [if_pos h]
    exact ⟨_, hb s .rxAccepted, rfl⟩
  · simp only [if_neg h]
    exact ⟨_, fun p => (hb _ .rxAccepted p).trans (hb s .rxCrossed p), rfl⟩

/-! ## The Reference Unit (R115 to R125) -/

/-- The host-timescale flag falls with the REF state VALID (R125). -/
theorem State.setRefUnit_eq (r : RefUnit) :
    s.setRefUnit r = (s.setRef r).setSteer { s.steer with
      hostTimescale := s.steer.hostTimescale && !decide (s.ref.state = .valid ∧ r.state ≠ .valid) } := by
  unfold State.setRefUnit
  by_cases h : s.ref.state = .valid ∧ r.state ≠ .valid
  · simp [h]
  · simp [h]; rfl

/-- What an operation that touches only the Reference Unit, the record of the Steering Controller apart from the node state, and
the flags leaves. -/
def State.RefMoved (s t : State) : Prop :=
  ∃ r x k, t = { s with ref := r, steer := x, cond := k } ∧ x.nodeState = s.steer.nodeState ∧ s.cond.Grows k

theorem State.RefMoved.trans {a b c : State} (h : a.RefMoved b) (h' : b.RefMoved c) : a.RefMoved c := by
  obtain ⟨r, x, k, rfl, hx, hk⟩ := h
  obtain ⟨r', x', k', rfl, hx', hk'⟩ := h'
  exact ⟨r', x', k', rfl, hx'.trans hx, hk.trans hk'⟩

theorem State.setRef_moved (r : RefUnit) : s.RefMoved (s.setRef r) := ⟨r, _, _, rfl, rfl, .refl _⟩

theorem State.setSteer_moved {x : Steering} (h : x.nodeState = s.steer.nodeState) : s.RefMoved (s.setSteer x) :=
  ⟨_, x, _, rfl, h, .refl _⟩

theorem State.report_moved (c : Condition) : s.RefMoved (s.report c) := ⟨_, _, _, rfl, rfl, s.report_grows c⟩

theorem State.reportIf_moved (b : Bool) (c : Condition) : s.RefMoved (s.reportIf b c) := by
  cases b
  · exact ⟨_, _, _, rfl, rfl, .refl _⟩
  · exact s.report_moved c

theorem State.setRefUnit_moved (r : RefUnit) : s.RefMoved (s.setRefUnit r) := by
  rw [s.setRefUnit_eq]
  exact (s.setRef_moved r).trans (State.setSteer_moved _ rfl)

/-- A pending anchor time at a pulse moves the record, and a STEP may follow (R124). -/
theorem State.applyAnchor_cases (t : Timestamp) :
    s.RefMoved (s.applyAnchor t) ∨ ∃ v c, s.RefMoved v ∧ s.applyAnchor t = v.takeStep c := by
  unfold State.applyAnchor
  split
  · exact .inl ⟨_, _, _, rfl, rfl, .refl _⟩
  · next a _ =>
    have adopted : s.RefMoved ((s.setRef { s.ref with pendingTime := none }).setSteer (s.steer.adopt a.utc)) :=
      (s.setRef_moved _).trans (State.setSteer_moved _ rfl)
    simp only
    split
    · split
      · exact .inl adopted
      · exact .inl ((s.setRef_moved _).trans (State.report_moved _ _))
    · split
      · exact .inl adopted
      · exact .inr ⟨_, _, adopted, rfl⟩

/-- A pulse moves the reference and the record, and a STEP may follow (R116 to R118, R124). -/
theorem State.takePulse_cases : s.RefMoved s.takePulse ∨ ∃ v c, s.RefMoved v ∧ s.takePulse = v.takeStep c := by
  unfold State.takePulse
  have h1 := (s.setRefUnit_moved ((s.ref.judgePulse s.clock.reading).keepStamp s.clock.reading)).trans
    (State.reportIf_moved _ (s.ref.pulseLoses s.clock.reading) .refLost)
  simp only
  split
  · rcases State.applyAnchor_cases _ s.clock.reading with h | ⟨v, c, hv, hc⟩
    · exact .inl (h1.trans h)
    · exact .inr ⟨v, c, h1.trans hv, hc⟩
  · exact .inl h1

theorem State.takeMiss_moved : s.RefMoved s.takeMiss := by
  have self : s.RefMoved s := ⟨_, _, _, rfl, rfl, .refl _⟩
  have miss : s.RefMoved
      (if s.ref.missCount = 0 then s.setRef { s.ref with missCount := 1 } else (s.setRefUnit s.ref.lose).report .refLost) := by
    split
    · exact s.setRef_moved _
    · exact (s.setRefUnit_moved _).trans (State.report_moved _ _)
  unfold State.takeMiss
  split
  · exact self
  · exact s.setRef_moved _
  · exact miss
  · exact miss

theorem State.judgeReference_moved (range : PeerRange) (offset : Option Int) (selected : Bool) :
    s.RefMoved (s.judgeReference range offset selected) := by
  unfold State.judgeReference
  split
  · exact (s.setRefUnit_moved _).trans (State.reportIf_moved _ _ _)
  · exact ⟨_, _, _, rfl, rfl, .refl _⟩

/-! ## Gates (R18, R19, R22) -/

/-- A gate end begins the next gate; beside that it may leave WARMUP, or enter FAULT from a running state. -/
theorem State.takeGate_cases :
    (∃ m, s.takeGate = s.setMonitor m) ∨
    (s.steer.nodeState = .warmup ∧ ∃ m, s.takeGate = (s.setMonitor m).leaveWarmup) ∨
    s.steer.nodeState.running = true ∧ ∃ m, s.takeGate = (s.setMonitor m).enterFault := by
  have run (h : s.steer.nodeState.running = true) (b : Bool) (m : Monitor) :
      (∃ m', (if b then s.setMonitor m else (s.setMonitor m).enterFault) = s.setMonitor m') ∨
      (s.steer.nodeState = .warmup ∧
        ∃ m', (if b then s.setMonitor m else (s.setMonitor m).enterFault) = (s.setMonitor m').leaveWarmup) ∨
      s.steer.nodeState.running = true ∧
        ∃ m', (if b then s.setMonitor m else (s.setMonitor m).enterFault) = (s.setMonitor m').enterFault := by
    cases b
    · exact .inr (.inr ⟨h, m, rfl⟩)
    · exact .inl ⟨m, rfl⟩
  unfold State.takeGate
  cases h : s.steer.nodeState with
  | warmup =>
    simp only
    split
    · exact .inr (.inl ⟨trivial, _, rfl⟩)
    · exact .inl ⟨_, rfl⟩
  | config => exact .inl ⟨_, rfl⟩
  | fault => exact .inl ⟨_, rfl⟩
  | listen => simpa [h] using run (by rw [h]; rfl) _ _
  | acquire => simpa [h] using run (by rw [h]; rfl) _ _
  | track => simpa [h] using run (by rw [h]; rfl) _ _
  | holdover => simpa [h] using run (by rw [h]; rfl) _ _
  | anchored => simpa [h] using run (by rw [h]; rfl) _ _

/-- The monitor top touches the monitor and, where the lamps are timed by it, the Output Unit (R144). -/
theorem State.takeMonitorTop_cases : ∃ m o, s.takeMonitorTop = (s.setMonitor m).setOuts o := by
  unfold State.takeMonitorTop
  simp only
  split
  · exact ⟨_, _, rfl⟩
  · exact ⟨{ s.monitor with topDue := false }, s.outs, rfl⟩

/-! ## Tops of second (R127, R133) -/

theorem Steering.leapAt_cases (x : Steering) (top : Timestamp) :
    ∃ u g, x.leapAt top = { x with utc := u, leapGuard := g } := by
  unfold Steering.leapAt
  split
  · exact ⟨_, _, rfl⟩
  · exact ⟨x.utc, x.leapGuard, rfl⟩

/-- A top of second names the next, moves a leap, and in the running states drives the frames and the outputs. -/
theorem State.takeTop_cases (top : Timestamp) : ∃ n u g c o, s.takeTop top = { s with
    clock := { s.clock with named := n }, steer := { s.steer with utc := u, leapGuard := g }, code := c, outs := o } := by
  obtain ⟨u, g, h⟩ := s.steer.leapAt_cases top
  have h' : (s.nameTop top).steer.leapAt top = { s.steer with utc := u, leapGuard := g } := h
  unfold State.takeTop
  simp only [h']
  split
  · exact ⟨_, u, g, _, _, rfl⟩
  · exact ⟨_, u, g, s.code, s.outs, rfl⟩

/-! ## The Capture Unit (R156 to R162) -/

/-- The FIFO and the overflow count lie within their bounds (R160). -/
def CaptureUnit.Bounded (c : CaptureUnit) : Prop := c.fifo.length ≤ 32 ∧ c.overflow ≤ 255

/-- A capture is stored below the capacity, and counted to 255 beyond it (R160). -/
theorem CaptureUnit.store_bounded (c : CaptureUnit) (i : Fin 8) (edge : EdgeKind) (x : Snapshot) (h : c.Bounded) :
    (c.store i edge x).Bounded := by
  unfold CaptureUnit.store
  split
  · next hc => exact ⟨by simpa using Nat.succ_le_of_lt hc, h.2⟩
  · exact ⟨h.1, satSucc_le 255 _⟩

/-- What an operation that touches only the Capture Unit and the flags leaves, the bounds of the FIFO kept. -/
def State.CaptureMoved (s t : State) : Prop :=
  ∃ c k, t = { s with capture := c, cond := k } ∧ (s.capture.Bounded → c.Bounded) ∧ s.cond.Grows k

theorem State.CaptureMoved.refl : s.CaptureMoved s := ⟨_, _, rfl, id, .refl _⟩

theorem State.CaptureMoved.trans {a b c : State} (h : a.CaptureMoved b) (h' : b.CaptureMoved c) : a.CaptureMoved c := by
  obtain ⟨x, k, rfl, hx, hk⟩ := h
  obtain ⟨x', k', rfl, hx', hk'⟩ := h'
  exact ⟨x', k', rfl, hx' ∘ hx, hk.trans hk'⟩

theorem State.setCapture_moved {c : CaptureUnit} (h : s.capture.Bounded → c.Bounded) : s.CaptureMoved (s.setCapture c) :=
  ⟨c, _, rfl, h, .refl _⟩

theorem State.storeCapture_moved (i : Fin 8) (edge : EdgeKind) (x : Snapshot) : s.CaptureMoved (s.storeCapture i edge x) := by
  unfold State.storeCapture
  cases decide (fifoCapacity ≤ s.capture.fifo.length)
  · exact ⟨_, _, rfl, s.capture.store_bounded i edge x, .refl _⟩
  · exact ⟨_, _, rfl, s.capture.store_bounded i edge x, s.report_grows .captureLoss⟩

theorem State.filteredEdge_moved (i : Fin 8) (level : Bool) (x : Snapshot) : s.CaptureMoved (s.filteredEdge i level x) := by
  have h1 (b : Bool) : s.CaptureMoved ((s.setFiltered i level).moveArms i b) :=
    (s.setCapture_moved id).trans (State.setCapture_moved _ id)
  unfold State.filteredEdge
  simp only
  split
  · exact (h1 _).trans (State.storeCapture_moved _ i (edgeTo level) x)
  · exact h1 _

theorem State.takeFiltered_moved (i : Fin 8) : s.CaptureMoved (s.takeFiltered i) := by
  unfold State.takeFiltered
  split
  · exact .refl s
  · split
    · exact s.filteredEdge_moved _ _ _
    · exact .refl s

theorem State.rawChange_moved (i : Fin 8) (level : Bool) : s.CaptureMoved (s.rawChange i level) := by
  have h1 := s.takeFiltered_moved i
  have h2 := h1.trans (State.setCapture_moved (s.takeFiltered i) (c := { (s.takeFiltered i).capture with
    inputs := vmodify (s.takeFiltered i).capture.inputs i (·.raw level (s.takeFiltered i).snapshot) }) id)
  unfold State.rawChange
  simp only
  split
  · exact h2.trans (State.takeFiltered_moved _ _)
  · exact h2

end Sys2Proof.Machine
end

section
/-! SUPPORT. The completion of a round in its parts: what a decision can be, what its issue does, and what the Peer Table's work
leaves of a slot (R60, R72, R98 to R110). -/

namespace Sys2Proof.Machine

variable (s : State)

/-! ## Orders (R8 to R12) -/

theorem State.settleSlew_cases :
    (s.clock.slew = none ∧ s.settleSlew = s) ∨
    ∃ w, s.clock.slew = some w ∧ s.settleSlew =
      (s.setClock { s.clock with reading := s.clock.reading.plus (w.amount - w.delivered), slew := none }).setRef
        (s.ref.correct (w.amount - w.delivered)) := by
  unfold State.settleSlew
  cases h : s.clock.slew with
  | none => exact .inl ⟨rfl, rfl⟩
  | some w => exact .inr ⟨w, rfl, rfl⟩

/-- A settlement moves the reading, the slew and the correction total (R11, R116). -/
theorem State.settleSlew_eq : ∃ t r, s.settleSlew = { s with clock := { s.clock with reading := t, slew := none }, ref := r } := by
  rcases s.settleSlew_cases with ⟨h, e⟩ | ⟨w, -, e⟩
  · refine ⟨s.clock.reading, s.ref, e.trans ?_⟩
    rw [← h]
  · exact ⟨_, _, e⟩

/-- The rate adjustment stays, or moves by one rate step (R8). -/
def RateStepped (a b : Int) : Prop := b = a ∨ ∃ d, b = rateAfter a d

/-! ## Decisions (R98 to R110) -/

/-- What every decision keeps of the record: the leap guard, the host timescale, the UTC values, the node's place among the
running states, and, where the node state and REF selected stay, the at-limit count. -/
def Steering.Kept (x y : Steering) : Prop :=
  y.leapGuard = x.leapGuard ∧ y.hostTimescale = x.hostTimescale ∧ y.utc = x.utc ∧
    (x.nodeState.running = true → y.nodeState.running = true) ∧
    (y.nodeState = x.nodeState → y.refSelected = x.refSelected → y.atLimitCount = x.atLimitCount)

theorem Steering.Kept.refl (x : Steering) : x.Kept x := ⟨rfl, rfl, rfl, id, fun _ _ => rfl⟩

/-- A move to a running state keeps what decisions keep (R96). -/
theorem Steering.move_kept (x : Steering) (st : NodeState) (selected : Bool) (h : x.nodeState.running = true → st.running = true) :
    x.Kept (x.move st selected) := by
  unfold Steering.move
  by_cases hm : st = x.nodeState ∧ selected = x.refSelected
  · rw [if_pos hm]; exact .refl x
  · rw [if_neg hm]; exact ⟨rfl, rfl, rfl, h, fun h1 h2 => absurd ⟨h1, h2⟩ hm⟩

theorem Steering.move_nodeState (x : Steering) (st : NodeState) (selected : Bool) : (x.move st selected).nodeState = st := by
  unfold Steering.move
  by_cases hm : st = x.nodeState ∧ selected = x.refSelected
  · rw [if_pos hm, hm.1]
  · rw [if_neg hm]

/-- A decision is to hold, to step on the way into ACQUIRE, or to correct by the round's correction, with a record that keeps
what every decision keeps (R99, R100). -/
def Decision.Shape (x : Steering) (cfg : ConfigRecord) (c : Int) (d : Decision) : Prop :=
  x.Kept d.steer ∧ (d = d.steer.hold ∨ (∃ a, d = d.steer.step a ∧ d.steer.nodeState = .acquire) ∨
    ∃ g, d = d.steer.correct cfg g c)

section Shapes

variable {x y : Steering} {cfg : ConfigRecord} {c : Int}

theorem Decision.Shape.hold (h : x.Kept y) : Decision.Shape x cfg c y.hold := ⟨h, .inl rfl⟩

theorem Decision.Shape.step {a : Int} (h : x.Kept y) (hy : y.nodeState = .acquire) : Decision.Shape x cfg c (y.step a) :=
  ⟨h, .inr (.inl ⟨a, rfl, hy⟩)⟩

theorem Decision.Shape.correct {g : Nat} (h : x.Kept y) : Decision.Shape x cfg c (y.correct cfg g c) :=
  ⟨h, .inr (.inr ⟨g, rfl⟩)⟩

end Shapes

variable (x : Steering) (cfg : ConfigRecord) (r : RoundResult)

theorem Steering.inListen_shape : Decision.Shape x cfg (r.correction.getD 0) (x.inListen r) := by
  unfold Steering.inListen
  simp only
  split
  · exact .hold (Steering.Kept.refl x)
  · split
    · exact .step (Steering.move_kept
        { x with listenCount := satSucc 4 x.listenCount, epochKnown := x.epochKnown || r.epochKnownSet } .acquire _ fun _ => rfl)
        (Steering.move_nodeState _ _ _)
    · exact .hold (Steering.Kept.refl x)

theorem Steering.inAcquire_shape (h : x.nodeState = .acquire) :
    Decision.Shape x cfg (r.correction.getD 0) (x.inAcquire cfg r) := by
  unfold Steering.inAcquire
  split
  · exact .hold (.refl x)
  · next c hc =>
    rw [hc, Option.getD_some]
    simp only
    split
    · split
      · exact .correct ((x.agree cfg c).move_kept .track false fun _ => rfl)
      · exact .correct (Steering.Kept.refl x)
    · exact .step (Steering.Kept.refl x) h

theorem Steering.inTrack_shape : Decision.Shape x cfg (r.correction.getD 0) (x.inTrack cfg r) := by
  unfold Steering.inTrack
  split
  · exact .hold (x.move_kept .holdover _ fun _ => rfl)
  · next c hc =>
    rw [hc, Option.getD_some]
    simp only
    split
    · exact .correct (Steering.Kept.refl x)
    · split
      · exact .step (Steering.move_kept { x with excessCount := satSucc 3 x.excessCount } .acquire _ fun _ => rfl)
          (Steering.move_nodeState _ _ _)
      · exact .hold (Steering.Kept.refl x)

theorem Steering.inHoldover_shape : Decision.Shape x cfg (r.correction.getD 0) (x.inHoldover cfg r) := by
  unfold Steering.inHoldover
  split
  · exact .hold (Steering.Kept.refl x)
  · next c hc =>
    rw [hc, Option.getD_some]
    split
    · exact .correct (x.move_kept .track _ fun _ => rfl)
    · exact .step (x.move_kept .acquire _ fun _ => rfl) (x.move_nodeState _ _)

theorem Steering.inAcquireRef_shape (fresh : Bool) (h : x.nodeState = .acquire) :
    Decision.Shape x cfg (r.correction.getD 0) (x.inAcquireRef cfg r fresh) := by
  have corrects (y : Steering) (hy : x.Kept y) (hm : x.Kept (y.move .anchored true)) :
      Decision.Shape x cfg (r.correction.getD 0)
        ((if y.agreementCount = 8 then y.move .anchored true else y).correct cfg cfg.acquireGain (r.correction.getD 0)) := by
    split
    · exact .correct hm
    · exact .correct hy
  unfold Steering.inAcquireRef
  simp only
  by_cases ht : cfg.withinThreshold (r.correction.getD 0) = true
  · rw [if_pos ht]
    cases fresh
    · exact corrects x (.refl x) (x.move_kept .anchored true fun _ => rfl)
    · exact corrects (x.agree cfg (r.correction.getD 0)) (Steering.Kept.refl x)
        ((x.agree cfg (r.correction.getD 0)).move_kept .anchored true fun _ => rfl)
  · rw [if_neg ht]
    exact .step (Steering.Kept.refl x) h

theorem Steering.inAnchored_shape : Decision.Shape x cfg (r.correction.getD 0) (x.inAnchored cfg r) := by
  unfold Steering.inAnchored
  simp only
  split
  · exact .correct (Steering.Kept.refl x)
  · exact .step (x.move_kept .acquire _ fun _ => rfl) (x.move_nodeState _ _)

/-- The ordinary decision has one of the three shapes (R98, step 4). -/
theorem Steering.ordinary_shape (fresh : Bool) : Decision.Shape x cfg (r.correction.getD 0) (x.ordinary cfg r fresh) := by
  unfold Steering.ordinary
  split
  · exact x.inListen_shape cfg r
  · next h =>
    split
    · exact x.inAcquireRef_shape cfg r fresh h
    · exact x.inAcquire_shape cfg r h
  · exact x.inTrack_shape cfg r
  · exact x.inHoldover_shape cfg r
  · exact x.inAnchored_shape cfg r
  all_goals exact .hold (.refl x)

/-- The release of the reference is a hold (R110). -/
theorem Steering.release_shape (range : PeerRange) (c : Int) : Decision.Shape x cfg c (x.release range) := by
  unfold Steering.release
  split
  · refine .hold (x.move_kept _ _ fun _ => ?_)
    split <;> rfl
  · exact .hold (x.move_kept _ _ id)

/-- The entry on the reference, where one takes place, holds or corrects (R108). -/
theorem Steering.enter_shape (offset : Option Int) (d : Decision) (h : x.enter cfg r offset = some d) :
    Decision.Shape x cfg (r.correction.getD 0) d := by
  have acquire : Decision.Shape x cfg (r.correction.getD 0) (x.move .acquire true).hold :=
    .hold (x.move_kept .acquire true fun _ => rfl)
  have anchored : x.Kept (x.move .anchored true) := x.move_kept .anchored true fun _ => rfl
  cases hn : x.nodeState
  case listen | acquire =>
    simp only [Steering.enter, hn, Option.some.injEq] at h
    exact h ▸ acquire
  case track | holdover =>
    simp only [Steering.enter, hn] at h
    split at h
    · cases h
    · split at h
      · split at h
        · next c hc =>
          rw [hc, Option.getD_some]
          split at h
          · cases h; exact .correct anchored
          · cases h; exact .hold anchored
        · cases h; exact .hold anchored
      · cases h; exact acquire
  case warmup | config | anchored | fault =>
    simp [Steering.enter, hn] at h

/-- The decision of a completion has one of the three shapes; only the adoption of an epoch offer, in a record that does not know
the epoch, takes other UTC values first (R98, R107). -/
theorem Steering.decideRound_shape (ref : RefState) (offset : Option Int) :
    ∃ u, (x.epochKnown = true ∨ r.offer = none → u = x.utc) ∧
      Decision.Shape { x with utc := u } cfg (r.correction.getD 0) (x.decideRound cfg ref r offset) := by
  unfold Steering.decideRound
  split
  · refine ⟨x.utc, fun _ => rfl, ?_⟩
    unfold Steering.overtaken
    split
    · exact .hold (Steering.Kept.refl x)
    · exact .hold (Steering.Kept.refl x)
  · split
    · next o ho =>
      obtain ⟨hr, hm⟩ := Option.filter_eq_some_iff.mp ho
      simp only [Steering.mayAdopt, Bool.and_eq_true, Bool.not_eq_true'] at hm
      refine ⟨o.utc, fun h => ?_, ?_⟩
      · rcases h with h | h
        · rw [h] at hm; cases hm.1
        · rw [h] at hr; cases hr
      · exact .step (Steering.move_kept { x with epochKnown := true, utc := o.utc } .acquire x.refSelected fun _ => rfl)
          (Steering.move_nodeState { x with epochKnown := true, utc := o.utc } .acquire x.refSelected)
    · refine ⟨x.utc, fun _ => rfl, ?_⟩
      split
      · split
        · exact x.ordinary_shape cfg r _
        · exact x.release_shape cfg _ _
      · split
        · cases he : x.enter cfg r offset with
          | none => exact x.ordinary_shape cfg r _
          | some d => exact x.enter_shape cfg r offset d he
        · exact x.ordinary_shape cfg r _

/-! ## Step 5 of R98 -/

/-- Step 5 moves the estimate, the class it gives, and the UTC values, which the host timescale and a leap guard hold (R111,
R112, R126). -/
theorem Steering.finish_eq (y : Steering) : ∃ e h u,
    y.finish x cfg r = { y with
      estimate := e, holdoverEntry := h, utc := u
      accuracyClass := if y.nodeState.settled then accuracyClassOf e else 15 } ∧
    (y.hostTimescale = true ∨ y.leapGuard ≠ none → u = y.utc) := by
  have estimated : ∃ e h, y.setEstimate x cfg r = { y with estimate := e, holdoverEntry := h } := by
    unfold Steering.setEstimate
    split
    · exact ⟨_, _, rfl⟩
    · split
      · exact ⟨_, _, rfl⟩
      · split <;> exact ⟨_, _, rfl⟩
  obtain ⟨e, h, he⟩ := estimated
  unfold Steering.finish
  rw [he]
  unfold Steering.setUtc
  split
  · exact ⟨e, h, y.utc, rfl, fun _ => rfl⟩
  · next hn =>
    have free : ¬(y.hostTimescale = true ∨ y.leapGuard ≠ none) := by
      rintro (ht | hg)
      · exact hn (.inr (.inl ht))
      · exact hn (.inr (.inr (.inl (Option.isSome_iff_ne_none.mpr hg))))
    split
    · exact ⟨e, h, y.utc, rfl, fun _ => rfl⟩
    · exact ⟨e, h, _, rfl, fun hc => absurd hc free⟩

/-! ## The issue of each shape (R9, R101, R102) -/

/-- The state with a decision's record, its outputs evaluated (R98 step 6, R132). -/
def State.recorded (s : State) (y : Steering) : State := (s.setSteer y).evaluateOutputs

@[simp] theorem State.recorded_pending (y : Steering) : (s.recorded y).pending = s.pending := rfl
@[simp] theorem State.recorded_idleCount (y : Steering) : (s.recorded y).idleCount = s.idleCount := rfl
@[simp] theorem State.recorded_pins (y : Steering) : (s.recorded y).pins = s.pins := rfl
@[simp] theorem State.recorded_clock (y : Steering) : (s.recorded y).clock = s.clock := rfl
@[simp] theorem State.recorded_monitor (y : Steering) : (s.recorded y).monitor = s.monitor := rfl
@[simp] theorem State.recorded_ports (y : Steering) : (s.recorded y).ports = s.ports := rfl
@[simp] theorem State.recorded_slots (y : Steering) : (s.recorded y).slots = s.slots := rfl
@[simp] theorem State.recorded_published (y : Steering) : (s.recorded y).published = s.published := rfl
@[simp] theorem State.recorded_round (y : Steering) : (s.recorded y).round = s.round := rfl
@[simp] theorem State.recorded_ref (y : Steering) : (s.recorded y).ref = s.ref := rfl
@[simp] theorem State.recorded_code (y : Steering) : (s.recorded y).code = s.code := rfl
@[simp] theorem State.recorded_capture (y : Steering) : (s.recorded y).capture = s.capture := rfl
@[simp] theorem State.recorded_cond (y : Steering) : (s.recorded y).cond = s.cond := rfl
@[simp] theorem State.recorded_port (y : Steering) : (s.recorded y).port = s.port := rfl
@[simp] theorem State.recorded_steer (y : Steering) : (s.recorded y).steer = y := rfl
@[simp] theorem State.recorded_config (y : Steering) : (s.recorded y).config = s.config := rfl

theorem State.issue_hold (changed : Bool) (y : Steering) : s.issue changed y.hold = s.recorded y := by
  have h : (s.recorded y).takeOrder ⟨none, .hold⟩ = s.recorded y := by
    unfold State.takeOrder
    split <;> rfl
  simp only [State.issue, Steering.hold, State.moveAtLimit, State.reportIf_false]
  exact h

theorem State.issue_step (changed : Bool) (y : Steering) (hy : y.nodeState.running = true) (c : Int) :
    s.issue changed (y.step c) = ((s.recorded y).setClock { s.clock with slew := none }).takeStep c := by
  have h : (s.recorded y).takeOrder ⟨none, .step c⟩ = ((s.recorded y).setClock { s.clock with slew := none }).takeStep c :=
    if_pos hy
  simp only [State.issue, Steering.step, State.moveAtLimit, State.reportIf_false]
  exact h

/-- The state in which a SLEW has been taken: the slew before it settled, the rate step applied, the slew begun (R9). -/
def State.slewed (s : State) (rateStep amount : Int) : State :=
  ((s.settleSlew).applyRate (some rateStep)).beginSlew amount

theorem State.issue_correct (changed : Bool) (y : Steering) (hy : y.nodeState.running = true) (cfg : ConfigRecord) (g : Nat)
    (c : Int) :
    let v := (s.recorded y).slewed (rateStepOf cfg g c) (clampTo cfg.slewLimit c)
    let n := countAtLimit v.steer.atLimitCount changed (atLimit v.clock.rate)
    s.issue changed (y.correct cfg g c) =
      ((v.setSteer { v.steer with atLimitCount := n.1 }).reportIf n.2 .oscRange).reportIf
        (decide ((cfg.slewLimit : Int) < |c|)) .clamped := by
  have h : (s.recorded y).takeOrder ⟨some (rateStepOf cfg g c), .slew (clampTo cfg.slewLimit c)⟩ =
      (s.recorded y).slewed (rateStepOf cfg g c) (clampTo cfg.slewLimit c) := if_pos hy
  simp only [State.issue, Steering.correct, State.moveAtLimit]
  rw [← h]
  rfl

/-- A SLEW moves the clock and the correction total; the rate moves by its rate step (R8 to R11). -/
theorem State.slewed_eq (d a : Int) : ∃ t w r, s.slewed d a = { s with
    clock := { s.clock with reading := t, slew := w, rate := rateAfter s.clock.rate d }, ref := r } := by
  obtain ⟨t, r, h⟩ := s.settleSlew_eq
  refine ⟨t, newSlew s.config a t, r, ?_⟩
  unfold State.slewed
  rw [h]
  rfl

/-! ## The parts of a completion (R72) -/

/-- The part at a completion once the close in flight has ended and the reference is judged (R121, R122). -/
def State.judged (s : State) (f : Flight) : State :=
  let r := f.result s.config s.ownId s.round.quiet
  (s.setRound { s.round with flight := none }).judgeReference r.peerRange f.refOffset f.refSelected

/-- The decision of a completion, with the record that step 5 of R98 leaves. -/
def State.decided (s : State) (f : Flight) : Decision :=
  let r := f.result s.config s.ownId s.round.quiet
  let x := (s.judged f).steer
  let d := x.decideRound s.config (s.judged f).ref.state r f.refOffset
  { d with steer := d.steer.finish x s.config r }

/-- Whether the decision of a completion changes the node state or REF selected. -/
def State.spellChanges (s : State) (f : Flight) : Bool :=
  let r := f.result s.config s.ownId s.round.quiet
  let x := (s.judged f).steer
  changesSpell x (x.decideRound s.config (s.judged f).ref.state r f.refOffset).steer

/-- The part at a completion once the decision is issued. -/
def State.issued (s : State) (f : Flight) : State := (s.judged f).issue (s.spellChanges f) (s.decided f)

/-- The part at a completion once the Peer Table's work is done and published, its report apart (R60, R67). -/
def State.tabled (s : State) (f : Flight) : State :=
  let r := f.result s.config s.ownId s.round.quiet
  let slots := completeSlots (s.issued f).config r.report (s.issued f).slots
  ((s.issued f).setSlots slots).setPublished { round := some r.round, slots := vmap Slot.publish slots }

/-- The part at a completion once the reports SUSPECT, STARVED and SPLIT are made (R62, R79, R84). -/
def State.reported (s : State) (f : Flight) : State :=
  let r := f.result s.config s.ownId s.round.quiet
  (((s.tabled f).reportIf (newSuspect (s.issued f).slots (s.tabled f).slots) .suspect).reportIf
    (r.starved && !r.overtaken) .starved).reportIf (r.split && !r.overtaken) .split

/-- The summary that a completion publishes (R92, R102). -/
def State.summaryOf (s : State) (f : Flight) : Summary :=
  (s.reported f).completeSummary (f.summary s.config s.ownId s.round.quiet s.round.published) (s.decided f).order

/-- A completion ends with the publication of its summary. -/
theorem State.complete_eq (f : Flight) :
    s.complete f = (s.reported f).setRound
      { (s.reported f).round with working := some (s.summaryOf f), published := s.summaryOf f } := rfl

/-- Only reports have been made. -/
def State.Reported (s t : State) : Prop := ∃ k, t = { s with cond := k } ∧ s.cond.Grows k

theorem State.Reported.trans {a b c : State} (h : a.Reported b) (h' : b.Reported c) : a.Reported c := by
  obtain ⟨k, rfl, hk⟩ := h
  obtain ⟨k', rfl, hk'⟩ := h'
  exact ⟨k', rfl, hk.trans hk'⟩

theorem State.reportIf_reported (b : Bool) (c : Condition) : s.Reported (s.reportIf b c) := by
  cases b
  · exact ⟨_, rfl, .refl _⟩
  · exact ⟨_, rfl, s.report_grows c⟩

theorem State.reported_reported (f : Flight) : (s.tabled f).Reported (s.reported f) :=
  ((State.reportIf_reported _ _ _).trans (State.reportIf_reported _ _ _)).trans (State.reportIf_reported _ _ _)

/-- What the work after the issue touches. -/
theorem State.complete_frame (f : Flight) : ∃ cfg rep p rd k,
    s.complete f = { s.issued f with
      slots := completeSlots cfg rep (s.issued f).slots, published := p, round := rd, cond := k } ∧
    (s.issued f).cond.Grows k := by
  obtain ⟨k, hk, hg⟩ := s.reported_reported f
  rw [s.complete_eq f, hk]
  exact ⟨_, _, _, _, k, rfl, hg⟩

theorem State.judged_moved (f : Flight) : (s.setRound { s.round with flight := none }).RefMoved (s.judged f) :=
  State.judgeReference_moved _ _ _ _

@[simp] theorem State.judged_pending (f : Flight) : (s.judged f).pending = s.pending := by
  obtain ⟨_, _, _, h, -, -⟩ := s.judged_moved f; rw [h]; rfl
@[simp] theorem State.judged_idleCount (f : Flight) : (s.judged f).idleCount = s.idleCount := by
  obtain ⟨_, _, _, h, -, -⟩ := s.judged_moved f; rw [h]; rfl
@[simp] theorem State.judged_pins (f : Flight) : (s.judged f).pins = s.pins := by
  obtain ⟨_, _, _, h, -, -⟩ := s.judged_moved f; rw [h]; rfl
@[simp] theorem State.judged_clock (f : Flight) : (s.judged f).clock = s.clock := by
  obtain ⟨_, _, _, h, -, -⟩ := s.judged_moved f; rw [h]; rfl
@[simp] theorem State.judged_monitor (f : Flight) : (s.judged f).monitor = s.monitor := by
  obtain ⟨_, _, _, h, -, -⟩ := s.judged_moved f; rw [h]; rfl
@[simp] theorem State.judged_ports (f : Flight) : (s.judged f).ports = s.ports := by
  obtain ⟨_, _, _, h, -, -⟩ := s.judged_moved f; rw [h]; rfl
@[simp] theorem State.judged_slots (f : Flight) : (s.judged f).slots = s.slots := by
  obtain ⟨_, _, _, h, -, -⟩ := s.judged_moved f; rw [h]; rfl
@[simp] theorem State.judged_published (f : Flight) : (s.judged f).published = s.published := by
  obtain ⟨_, _, _, h, -, -⟩ := s.judged_moved f; rw [h]; rfl
@[simp] theorem State.judged_outs (f : Flight) : (s.judged f).outs = s.outs := by
  obtain ⟨_, _, _, h, -, -⟩ := s.judged_moved f; rw [h]; rfl
@[simp] theorem State.judged_code (f : Flight) : (s.judged f).code = s.code := by
  obtain ⟨_, _, _, h, -, -⟩ := s.judged_moved f; rw [h]; rfl
@[simp] theorem State.judged_capture (f : Flight) : (s.judged f).capture = s.capture := by
  obtain ⟨_, _, _, h, -, -⟩ := s.judged_moved f; rw [h]; rfl
@[simp] theorem State.judged_port (f : Flight) : (s.judged f).port = s.port := by
  obtain ⟨_, _, _, h, -, -⟩ := s.judged_moved f; rw [h]; rfl
@[simp] theorem State.judged_round (f : Flight) : (s.judged f).round = { s.round with flight := none } := by
  obtain ⟨_, _, _, h, -, -⟩ := s.judged_moved f; rw [h]; rfl
@[simp] theorem State.judged_config (f : Flight) : (s.judged f).config = s.config := by simp [State.config]
@[simp] theorem State.judged_nodeState (f : Flight) : (s.judged f).steer.nodeState = s.steer.nodeState := by
  obtain ⟨_, _, _, h, hx, -⟩ := s.judged_moved f; rw [h]; exact hx

theorem State.judged_grows (f : Flight) : s.cond.Grows (s.judged f).cond := by
  obtain ⟨_, _, _, h, -, hk⟩ := s.judged_moved f; rw [h]; exact hk

/-- The decision of a completion with the record of step 5 has one of the three shapes; its record is among the running states if
the record before it is. -/
theorem State.decided_cases (f : Flight) (h : s.running = true) : ∃ y, y = (s.decided f).steer ∧ y.nodeState.running = true ∧
    (s.decided f = y.hold ∨ (∃ a, s.decided f = y.step a ∧ y.nodeState = .acquire) ∨
      ∃ g, s.decided f = y.correct s.config g ((f.result s.config s.ownId s.round.quiet).correction.getD 0)) := by
  have run : (s.judged f).steer.nodeState.running = true := by
    rw [s.judged_nodeState f]; exact (Bool.and_eq_true_iff.mp h).2
  obtain ⟨u, -, ⟨-, -, -, hrun, -⟩, hshape⟩ := (s.judged f).steer.decideRound_shape s.config
    (f.result s.config s.ownId s.round.quiet) (s.judged f).ref.state f.refOffset
  obtain ⟨e, hh, w, hf, -⟩ := Steering.finish_eq (s.judged f).steer s.config (f.result s.config s.ownId s.round.quiet)
    ((s.judged f).steer.decideRound s.config (s.judged f).ref.state
      (f.result s.config s.ownId s.round.quiet) f.refOffset).steer
  have hnode : (s.decided f).steer.nodeState = ((s.judged f).steer.decideRound s.config (s.judged f).ref.state
      (f.result s.config s.ownId s.round.quiet) f.refOffset).steer.nodeState := by
    unfold State.decided
    simp only
    rw [hf]
  refine ⟨_, rfl, by rw [hnode]; exact hrun run, ?_⟩
  rw [hnode]
  rcases hshape with hd | ⟨a, hd, ha⟩ | ⟨g, hd⟩
  · left
    unfold State.decided
    simp only
    rw [hd]; rfl
  · refine .inr (.inl ⟨a, ?_, ha⟩)
    unfold State.decided
    simp only
    rw [hd]; rfl
  · refine .inr (.inr ⟨g, ?_⟩)
    unfold State.decided
    simp only
    rw [hd]; rfl

end Sys2Proof.Machine
end

section
/-! SUPPORT. The bounds of the delay windows and the transmit histories under the operations of the Peer Table and the link ports
(R36, R52, R53). -/

namespace Sys2Proof.Machine

/-! ## Delay windows (R52, R53) -/

/-- A delay window holds at most 8 samples, none older than 32 rounds (R52, R53). -/
def WindowFits (w : List Sample) : Prop := w.length ≤ 8 ∧ ∀ x ∈ w, ∀ a, x.age = some a → a ≤ 32

/-- Both windows of a slot fit. -/
def Slot.Fits (x : Slot) : Prop := ∀ p, WindowFits (x.windows.get p)

theorem windowFits_nil : WindowFits [] := ⟨Nat.zero_le _, fun _ h => by cases h⟩

/-- A sample without an age joins, the oldest leaving a full window (R52). -/
theorem joinWindow_fits {w : List Sample} {x : Sample} (h : WindowFits w) (hx : x.age = none) : WindowFits (joinWindow w x) := by
  refine ⟨by simp only [joinWindow, List.length_append, List.length_drop, List.length_singleton]; omega, fun y hy a ha => ?_⟩
  rcases List.mem_append.mp hy with hy | hy
  · exact h.2 y (List.mem_of_mem_drop hy) a ha
  · rw [List.mem_singleton.mp hy, hx] at ha
    cases ha

/-- A completion ages no sample beyond 32 rounds (R53). -/
theorem grow_fits {w : List Sample} (h : WindowFits w) : WindowFits (w.filterMap Sample.grow) := by
  refine ⟨(List.length_filterMap_le _ _).trans h.1, fun y hy a ha => ?_⟩
  obtain ⟨x, hx, hg⟩ := List.mem_filterMap.mp hy
  unfold Sample.grow at hg
  split at hg
  · next hn =>
    split at hg <;> cases hg
    · cases ha; exact Nat.zero_le _
    · rw [hn] at ha; cases ha
  · split at hg
    · next b _ hb => cases hg; cases ha; exact hb
    · cases hg

theorem close_fits {w : List Sample} (h : WindowFits w) : WindowFits (w.map Sample.close) := by
  refine ⟨by rw [List.length_map]; exact h.1, fun y hy a ha => ?_⟩
  obtain ⟨x, hx, rfl⟩ := List.mem_map.mp hy
  exact h.2 x hx a ha

/-- A copy's echo processing leaves the window, or one sample without an age joins it (R50 to R55). -/
theorem process_fits (x : Copy) (c : ConfigRecord) (st : NodeState) (h : List HistoryEntry) {w : List Sample}
    (hw : WindowFits w) : WindowFits (x.process c st h w).2 := by
  have joined : WindowFits (match (delayOf c h x).2 with
      | none => w
      | some v => joinWindow w { round := x.attributed, value := v, age := none, closed := false }) := by
    split
    · exact hw
    · exact joinWindow_fits hw rfl
  unfold Copy.process
  simp only
  split <;> exact joined

theorem Slot.accept_fits (x : Slot) (c : ConfigRecord) (st : NodeState) (h : List HistoryEntry) (p : PortId) (copy : Copy)
    (hx : x.Fits) : (x.accept c st h p copy).Fits := by
  intro q
  simp only [Slot.accept, Slot.bumpIf_windows, Slot.bump_windows]
  by_cases hq : q = p
  · subst hq
    rw [Pair.get_set_same]
    exact process_fits copy c st h (hx q)
  · rw [Pair.get_set_ne _ _ hq]
    exact hx q

theorem Slot.onStep_fits (x : Slot) (cfg : ConfigRecord) (st : NodeState) (c : Int) (t : Timestamp) (hx : x.Fits) :
    (x.onStep cfg st c t).Fits := by
  intro p
  simp only [Slot.onStep, Slot.bumpIf_windows]
  exact hx p

theorem Slot.close_fits (x : Slot) (round : BitVec 32) (hx : x.Fits) : (x.close round).Fits := by
  intro p
  simp only [Slot.close, Pair.get_map]
  exact Machine.close_fits (hx p)

/-! ## The completion work of a slot (R60 to R65) -/

/-- A miss, or its absence, moves the misses and the liveness, or makes the slot VACANT (R61). -/
theorem Slot.countMiss_cases (x : Slot) :
    (∃ m l, x.countMiss = { x with misses := m, liveness := l }) ∨ ∃ m, x.countMiss = { x with misses := m }.vacate := by
  unfold Slot.countMiss
  by_cases hv : x.liveness = .vacant
  · rw [if_pos hv]; exact .inl ⟨x.misses, x.liveness, rfl⟩
  · rw [if_neg hv]
    generalize (if x.heardFrom then 0 else satSucc 32 x.misses) = m
    simp only
    split
    · exact .inr ⟨m, rfl⟩
    · split
      · exact .inl ⟨m, .silent, rfl⟩
      · exact .inl ⟨m, x.liveness, rfl⟩

/-- Suspicion moves the suspect flag and its two counts (R62, R63). -/
theorem Slot.judge_eq (x : Slot) (cfg : ConfigRecord) (c : Option Int) (mark : Option Bool) :
    ∃ b n a, x.judge cfg c mark = { x with suspect := b, trims := n, agreements := a } := by
  unfold Slot.judge
  split
  · unfold Slot.countAgreement
    split
    · split
      · simp only
        split <;> exact ⟨_, _, _, rfl⟩
      · exact ⟨_, _, _, rfl⟩
    · exact ⟨_, _, _, rfl⟩
  · unfold Slot.countTrim
    split
    · exact ⟨_, _, _, rfl⟩
    · exact ⟨_, _, _, rfl⟩
    · simp only
      split <;> exact ⟨_, _, _, rfl⟩

theorem Slot.writeVerdict_eq (x : Slot) (cfg : ConfigRecord) (c : Option Int) (mark : Option Bool) :
    ∃ v, x.writeVerdict cfg c mark = { x with verdict := v } := by
  unfold Slot.writeVerdict
  split
  · exact ⟨_, rfl⟩
  · simp only
    split <;> exact ⟨_, rfl⟩

/-- The completion work ages the windows that the misses leave. -/
theorem Slot.complete_windows (x : Slot) (cfg : ConfigRecord) (c : Option Int) (mark : Option Bool) :
    (x.complete cfg c mark).windows =
      ({ x with lastLane := x.lane }.countMiss).windows.map fun w => w.filterMap Sample.grow := by
  obtain ⟨b, n, a, hj⟩ := Slot.judge_eq { x with lastLane := x.lane }.countMiss cfg c mark
  obtain ⟨v, hv⟩ := Slot.writeVerdict_eq ({ x with lastLane := x.lane }.countMiss.judge cfg c mark) cfg c mark
  simp only [Slot.complete, Slot.ageSamples]
  rw [hv, hj]

theorem Slot.complete_fits (x : Slot) (cfg : ConfigRecord) (c : Option Int) (mark : Option Bool) (hx : x.Fits) :
    (x.complete cfg c mark).Fits := by
  intro p
  rw [Slot.complete_windows, Pair.get_map]
  refine grow_fits ?_
  rcases Slot.countMiss_cases { x with lastLane := x.lane } with ⟨m, l, h⟩ | ⟨m, h⟩ <;> rw [h]
  · exact hx p
  · cases p <;> exact windowFits_nil

/-- All windows fit (R52, R53). -/
theorem State.windowsBounded_iff (s : State) : s.WindowsBounded ↔ ∀ i : Fin 16, s.slots[i].Fits := Iff.rfl

/-- Windows that fit stay so under a change of every slot that keeps them. -/
theorem windows_vmapIdx {v : Vector Slot 16} {f : Fin 16 → Slot → Slot} (hf : ∀ i x, x.Fits → (f i x).Fits)
    (h : ∀ i : Fin 16, v[i].Fits) : ∀ i : Fin 16, (vmapIdx f v)[i].Fits := by
  intro i
  rw [Fin.getElem_fin, vmapIdx_get]
  exact hf _ _ (h i)

theorem windows_vmap {v : Vector Slot 16} {f : Slot → Slot} (hf : ∀ x, x.Fits → (f x).Fits)
    (h : ∀ i : Fin 16, v[i].Fits) : ∀ i : Fin 16, (vmap f v)[i].Fits := by
  intro i
  rw [Fin.getElem_fin, vmap_get]
  exact hf _ (h i)

theorem windows_vmodify {v : Vector Slot 16} {k : Fin 16} {f : Slot → Slot} (hf : ∀ x, x.Fits → (f x).Fits)
    (h : ∀ i : Fin 16, v[i].Fits) : ∀ i : Fin 16, (vmodify v k f)[i].Fits := by
  intro i
  rw [Fin.getElem_fin, vmodify_get]
  split
  · exact hf _ (h i)
  · exact h i

end Sys2Proof.Machine
end

section
/-! SUPPORT. The invariants along the cases of the commands: what an event and a host command do to the rate adjustment, the step
count, the flags, the FIFO, the histories and the windows. -/

namespace Sys2Proof.Machine

variable {u t : State}

/-! ## Completions -/

/-- What the issue of a completion's decision does to the clock, the ports, the slots, the FIFO and the flags: without a STEP the
step count stays, with one it is counted, reported and every held transmit record is invalid (R8, R13, R37). -/
theorem State.issued_cases (f : Flight) (h : u.running = true) :
    (∃ k, RateStepped u.clock.rate k.rate ∧ k.stepCount = u.clock.stepCount ∧ (u.issued f).clock = k ∧
      (u.issued f).ports = u.ports ∧ (u.issued f).slots = u.slots ∧ (u.issued f).capture = u.capture ∧
      u.cond.Grows (u.issued f).cond) ∨
    ∃ (v : State) (c : Int), v.clock.rate = u.clock.rate ∧ v.clock.stepCount = u.clock.stepCount ∧ v.ports = u.ports ∧ v.slots = u.slots ∧
      v.capture = u.capture ∧ u.cond.Grows v.cond ∧ u.issued f = v.takeStep c := by
  obtain ⟨y, -, hrun, hd⟩ := u.decided_cases f h
  have hk := u.judged_grows f
  unfold State.issued
  rcases hd with hd | ⟨a, hd, -⟩ | ⟨g, hd⟩ <;> rw [hd]
  · rw [State.issue_hold]
    exact .inl ⟨u.clock, .inl rfl, rfl, by simp, by simp, by simp, by simp, hk⟩
  · rw [State.issue_step _ _ y hrun]
    exact .inr ⟨((u.judged f).recorded y).setClock { (u.judged f).clock with slew := none }, a, by simp, by simp,
      by simp, by simp, by simp, hk, rfl⟩
  · rw [State.issue_correct _ _ y hrun]
    generalize (f.result u.config u.ownId u.round.quiet).correction.getD 0 = c
    obtain ⟨tm, w, r, hs⟩ := ((u.judged f).recorded y).slewed_eq (rateStepOf u.config g c) (clampTo u.config.slewLimit c)
    simp only [hs]
    refine .inl ⟨{ u.clock with reading := tm, slew := w, rate := rateAfter u.clock.rate (rateStepOf u.config g c) },
      .inr ⟨_, rfl⟩, rfl, by simp, by simp, by simp, by simp, ?_⟩
    refine ConditionBlock.Grows.trans (ConditionBlock.Grows.trans ?_ (State.reportIf_grows _ _ _)) (State.reportIf_grows _ _ _)
    exact hk

/-! ## The step count (R13, R37) -/

/-- The step count stays, or a STEP has moved it by one, set STEPPED and made every held transmit record invalid. -/
def State.StepReported (s t : State) : Prop :=
  t.clock.stepCount = s.clock.stepCount ∨
    (t.clock.stepCount = s.clock.stepCount + 1#8 ∧ t.flag 2 = true ∧ ∀ p, ∀ h ∈ (t.ports.get p).history, h.valid = false)

theorem invalidate_history (p : LinkPort) : ∀ h ∈ p.invalidate.history, h.valid = false := by
  intro h hh
  obtain ⟨x, -, rfl⟩ := List.mem_map.mp hh
  rfl

/-- A STEP reports itself (R13, R37). -/
theorem State.takeStep_reported (v : State) (c : Int) (h : v.clock.stepCount = u.clock.stepCount) :
    u.StepReported (v.takeStep c) := by
  refine .inr ⟨by rw [State.takeStep_clock, ← h]; rfl, ?_, fun p => ?_⟩
  · rw [State.flag, State.takeStep_cond]
    exact v.report_sets .stepped
  · rw [State.takeStep_ports, Pair.get_map]
    exact invalidate_history _

/-! ## What an event does to the bounded and counted parts of the state -/

/-- The rate adjustment, the step count, the condition flags, the FIFO, the histories and the windows after an event. -/
structure State.Effect (u t : State) : Prop where
  steps : u.StepReported t
  rate : RateStepped u.clock.rate t.clock.rate
  flags : ∀ i, u.cond.flags.getLsbD i = true → t.cond.flags.getLsbD i = true
  fifo : u.capture.Bounded → t.capture.Bounded
  histories : ∀ p, (u.ports.get p).history.length ≤ 2 → (t.ports.get p).history.length ≤ 2
  windows : u.WindowsBounded → t.WindowsBounded

/-- An operation that leaves the rate, the step count, the Capture Unit, the histories and the slots alone. -/
theorem State.Effect.quiet (hs : t.clock.stepCount = u.clock.stepCount) (hr : t.clock.rate = u.clock.rate)
    (hf : ∀ i, u.cond.flags.getLsbD i = true → t.cond.flags.getLsbD i = true) (hc : t.capture = u.capture)
    (hp : ∀ p, (t.ports.get p).history = (u.ports.get p).history) (hw : t.slots = u.slots) : u.Effect t where
  steps := .inl hs
  rate := .inl hr
  flags := hf
  fifo h := hc ▸ h
  histories p h := by rw [hp]; exact h
  windows h := by rw [State.windowsBounded_iff, hw]; exact h

/-- An operation that moves only ports, slots and flags. -/
theorem State.Effect.link {ports : Pair LinkPort} {slots : Vector Slot 16} {k : ConditionBlock} (hk : u.cond.Grows k)
    (hp : ∀ p, (u.ports.get p).history.length ≤ 2 → (ports.get p).history.length ≤ 2)
    (hw : (∀ i : Fin 16, u.slots[i].Fits) → ∀ i : Fin 16, slots[i].Fits) :
    u.Effect { u with ports := ports, slots := slots, cond := k } where
  steps := .inl rfl
  rate := .inl rfl
  flags := hk.2
  fifo := id
  histories := hp
  windows := hw

theorem State.RefMoved.effect (h : u.RefMoved t) : u.Effect t := by
  obtain ⟨r, x, k, rfl, -, hk⟩ := h
  exact .quiet rfl rfl hk.2 rfl (fun _ => rfl) rfl

theorem State.CaptureMoved.effect (h : u.CaptureMoved t) : u.Effect t := by
  obtain ⟨c, k, rfl, hc, hk⟩ := h
  exact ⟨.inl rfl, .inl rfl, hk.2, hc, fun _ h => h, id⟩

/-- A STEP from a state with the rate, ports, slots and Capture Unit of another (R13, R37, R56). -/
theorem State.takeStep_effect (v : State) (c : Int) (hs : v.clock.stepCount = u.clock.stepCount)
    (hr : v.clock.rate = u.clock.rate) (hf : u.cond.Grows v.cond) (hc : v.capture = u.capture) (hp : v.ports = u.ports)
    (hw : v.slots = u.slots) : u.Effect (v.takeStep c) where
  steps := State.takeStep_reported v c hs
  rate := .inl (by rw [State.takeStep_clock]; exact hr)
  flags i h := by rw [State.takeStep_cond]; exact v.report_keeps .stepped i (hf.2 i h)
  fifo h := by rw [State.takeStep_capture, hc]; exact h
  histories p h := by
    rw [State.takeStep_ports, Pair.get_map, hp]
    simpa [LinkPort.invalidate] using h
  windows h := by
    rw [State.windowsBounded_iff, State.takeStep_slots, hw]
    exact windows_vmap (fun x hx => x.onStep_fits _ _ _ _ hx) h

/-- The issue of a completion's decision. -/
theorem State.issued_effect (f : Flight) (h : u.running = true) : u.Effect (u.issued f) := by
  rcases u.issued_cases f h with ⟨k, hr, hs, hk, hp, hw, hc, hf⟩ | ⟨v, c, hr, hs, hp, hw, hc, hf, e⟩
  · exact ⟨.inl (by rw [hk, hs]), by rw [hk]; exact hr, hf.2, fun h => hc ▸ h, fun p h => by rw [hp]; exact h,
      fun h => by rw [State.windowsBounded_iff, hw]; exact h⟩
  · rw [e]
    exact State.takeStep_effect v c hs hr hf hc hp hw

/-- A completion ages the windows beside its order (R53, R72). -/
theorem State.complete_effect (f : Flight) (h : u.running = true) : u.Effect (u.complete f) := by
  obtain ⟨cfg, rep, p, rd, k, e, hk⟩ := u.complete_frame f
  obtain ⟨steps, rate, flags, fifo, histories, windows⟩ := u.issued_effect f h
  rw [e]
  refine ⟨?_, rate, fun i hi => hk.2 i (flags i hi), fifo, histories, fun hw => ?_⟩
  · exact steps.imp id fun ⟨hs, hf, hh⟩ => ⟨hs, hk.2 2 hf, hh⟩
  · exact windows_vmapIdx (fun i x hx => x.complete_fits _ _ _ hx) (windows hw)

/-- A port after one port is changed keeps the bound of its history if the change keeps it. -/
theorem modifyPort_histories (port : PortId) {f : LinkPort → LinkPort}
    (hf : ∀ p, p.history.length ≤ 2 → (f p).history.length ≤ 2) (p : PortId) (h : (u.ports.get p).history.length ≤ 2) :
    ((u.modifyPort port f).ports.get p).history.length ≤ 2 := by
  rw [State.modifyPort_get]
  split
  · exact hf _ h
  · exact h

theorem State.takeFrame_effect (port : PortId) (bytes : List Byte) : u.Effect (u.takeFrame port bytes) := by
  have counted (c : PortCounter) (p : PortId) (h : (u.ports.get p).history.length ≤ 2) :
      ((u.bumpPort port c).ports.get p).history.length ≤ 2 := modifyPort_histories port (f := (·.bump c)) (fun _ h => h) p h
  rcases u.takeFrame_cases port bytes with ⟨c, b, k, e⟩ | ⟨c, i, d, b, k, e⟩ | ⟨x, kind, round, e⟩ <;> rw [e]
  · obtain ⟨k', e', hk⟩ := State.reportIf_reported (u.bumpPort port c) b k
    rw [e']
    exact .link hk (counted c) id
  · obtain ⟨k', e', hk⟩ := State.reportIf_reported ((u.bumpPort port c).bumpSlot i d) b k
    rw [e']
    exact .link hk (counted c) (windows_vmodify fun x hx => hx)
  · obtain ⟨ports, hp, e'⟩ := u.acceptCopy_frame port x kind round
    rw [e']
    exact .link (.refl _) (fun p h => (congrArg List.length (hp p)).trans_le h) (windows_vmodify fun x hx => x.accept_fits _ _ _ _ _ hx)

/-- The close work changes every slot, and may report PORT_SKEW (R57 to R59). -/
theorem State.closePeers_eq (s : State) (round : BitVec 32) :
    ∃ k, s.closePeers round = { s with slots := vmap (·.close round) s.slots, cond := k } ∧ s.cond.Grows k :=
  State.reportIf_reported (s.setSlots (vmap (fun x : Slot => x.close round) s.slots))
    ((vmap (fun x : Slot => x.close round) s.slots).toList.any fun x : Slot => x.skewed s.config) .portSkew

/-- A close does the Peer Table's work, begins the flight and the working summary, and names the next close (R57, R70). -/
theorem State.takeClose_eq (s : State) (tm : Timestamp) : ∃ n r rd k, s.takeClose tm = { s with
    clock := { s.clock with named := n }, ref := r, round := rd, cond := k
    slots := vmap (·.close (roundOfClose s.config tm)) s.slots } ∧ s.cond.Grows k := by
  obtain ⟨k, e, hk⟩ := s.closePeers_eq (roundOfClose s.config tm)
  simp only [State.takeClose]
  rw [e]
  exact ⟨_, _, _, k, rfl, hk⟩

/-- What every event does to the bounded and counted parts of the state. -/
theorem EventTakes.effect (h : EventTakes u t) : u.Effect t := by
  cases h with
  | stay => exact .quiet rfl rfl (fun _ h => h) rfl (fun _ => rfl) rfl
  | straps => exact .quiet rfl rfl (fun _ h => h) rfl (fun _ => rfl) rfl
  | gate =>
    rcases u.takeGate_cases with ⟨m, e⟩ | ⟨-, m, e⟩ | ⟨-, m, e⟩ <;> rw [e]
    · exact .quiet rfl rfl (fun _ h => h) rfl (fun _ => rfl) rfl
    · exact .quiet rfl rfl (fun _ h => h) rfl (fun p => by cases p <;> rfl) rfl
    · exact .quiet (by simp [Clock.onFault]) (by simp [Clock.onFault]) (by simp) (by simp) (by simp) (by simp)
  | monitorTop =>
    obtain ⟨m, o, e⟩ := u.takeMonitorTop_cases
    rw [e]
    exact .quiet rfl rfl (fun _ h => h) rfl (fun _ => rfl) rfl
  | linkDrop port receiving =>
    rcases u.dropLink_cases port receiving with e | ⟨b, -, e⟩ <;> rw [e]
    · exact .quiet rfl rfl (fun _ h => h) rfl (fun _ => rfl) rfl
    · refine .quiet rfl rfl (State.report_keeps _ _) rfl (fun p => ?_) rfl
      rw [State.report_ports, State.modifyPort_get]
      split <;> simp [State.setLinkPin]
  | linkUp port =>
    rcases u.raiseLink_cases port with e | ⟨-, e⟩ <;> rw [e]
    · exact .quiet rfl rfl (fun _ h => h) rfl (fun _ => rfl) rfl
    · refine .quiet rfl rfl (fun _ h => h) rfl (fun p => ?_) rfl
      rw [State.modifyPort_get]
      split <;> rfl
  | transmit =>
    refine ⟨.inl rfl, .inl rfl, fun _ h => h, id, fun p h => ?_, id⟩
    cases p
    · exact (congrArg List.length (LinkPort.transmit_history _ _ _)).trans_le ((List.length_filter_le _ _).trans h)
    · exact (congrArg List.length (LinkPort.transmit_history _ _ _)).trans_le ((List.length_filter_le _ _).trans h)
  | egress _ port =>
    refine ⟨.inl rfl, .inl rfl, fun _ h => h, id, modifyPort_histories (u := u) port fun p h => ?_, id⟩
    rw [LinkPort.egress_history]
    exact h
  | txComplete _ port =>
    refine ⟨.inl rfl, .inl rfl, fun _ h => h, id, modifyPort_histories (u := u) port fun p h => ?_, id⟩
    rcases p.txComplete_history u.clock.stepCount with e | e
    · rw [e]; exact h
    · exact e
  | frame _ port bytes => exact u.takeFrame_effect port bytes
  | close _ tm =>
    obtain ⟨n, r, rd, k, e, hk⟩ := u.takeClose_eq tm
    rw [e]
    exact ⟨.inl rfl, .inl rfl, hk.2, id, fun _ h => h, windows_vmap fun x hx => x.close_fits _ hx⟩
  | completion run f => exact u.complete_effect f run
  | slewEnd =>
    obtain ⟨tm, r, e⟩ := u.settleSlew_eq
    rw [e]
    exact .quiet rfl rfl (fun _ h => h) rfl (fun _ => rfl) rfl
  | pulse =>
    rcases u.takePulse_cases with h | ⟨v, c, ⟨r, x, k, rfl, -, hk⟩, e⟩
    · exact h.effect
    · rw [e]
      exact State.takeStep_effect _ c rfl rfl hk rfl rfl rfl
  | miss => exact u.takeMiss_moved.effect
  | anchorExpiry => exact .quiet rfl rfl (fun _ h => h) rfl (fun _ => rfl) rfl
  | top _ tm =>
    obtain ⟨n, w, g, c, o, e⟩ := u.takeTop_cases tm
    rw [e]
    exact .quiet rfl rfl (fun _ h => h) rfl (fun _ => rfl) rfl
  | half => exact .quiet rfl rfl (fun _ h => h) rfl (fun _ => rfl) rfl
  | channel => exact .quiet rfl rfl (fun _ h => h) rfl (fun _ => rfl) rfl
  | guardExpiry => exact .quiet rfl rfl (fun _ h => h) rfl (fun _ => rfl) rfl
  | pin => exact .quiet rfl rfl (fun _ h => h) rfl (fun _ => rfl) rfl
  | raw _ i level =>
    have h := ((u.setEventPin i level).rawChange_moved i level).effect
    exact ⟨h.steps, h.rate, h.flags, h.fifo, h.histories, h.windows⟩
  | filtered _ i => exact (u.takeFiltered_moved i).effect

end Sys2Proof.Machine
end

section
/-! SUPPORT. The cases of the host commands, and the invariants carried through whole commands and steps. -/

namespace Sys2Proof.Machine

variable {u t : State}

/-! ## What a host command can do -/

/-- A LOAD_CONFIG is malformed, refused, or holds its record (R173). -/
theorem State.loadRecord_cases (s : State) (l : List Byte) :
    s.loadRecord l = s.malformed (1 + l.length) ∨ (∃ code data, s.loadRecord l = s.respond 87 code data) ∨
    s.steer.nodeState = .config ∧ ∃ data, s.loadRecord l = (s.holdRecord (l.take 86)).respond 87 .accept data := by
  unfold State.loadRecord
  split
  · exact .inl rfl
  · split
    · next hc =>
      unfold State.judgeRecord
      split
      · exact .inr (.inl ⟨_, _, rfl⟩)
      · exact .inr (.inr ⟨hc, _, rfl⟩)
    · exact .inr (.inl ⟨_, _, rfl⟩)

/-- An ANCHOR_TIME is refused, or pends (R123). -/
theorem State.takeAnchorTime_cases (s : State) (seconds : BitVec 40) (utcOffset : BitVec 16) (flags : Byte) :
    (∃ code, s.takeAnchorTime seconds utcOffset flags = s.respond 9 code []) ∨
    s.takeAnchorTime seconds utcOffset flags = (s.pendAnchorTime seconds utcOffset flags).respond 9 .accept [] := by
  unfold State.takeAnchorTime
  split
  · exact .inr rfl
  · exact .inl ⟨_, rfl⟩
  · exact .inl ⟨_, rfl⟩
  · exact .inl ⟨_, rfl⟩

/-- A START is refused, or begins LISTEN from CONFIG (R174). -/
theorem State.startNode_cases (s : State) :
    (∃ code, s.startNode = s.respond 1 code []) ∨
    s.steer.nodeState = .config ∧ s.startNode = s.begin.respond 1 .accept [] := by
  unfold State.startNode
  split
  · next h =>
    refine .inr ⟨?_, rfl⟩
    by_contra hc
    rw [State.judgeStart, if_pos hc] at h
    cases h
  · exact .inl ⟨_, rfl⟩
  · exact .inl ⟨_, rfl⟩
  · exact .inl ⟨_, rfl⟩

/-- The FIFO only shrinks by a read (R162). -/
theorem State.readFifo_eq (s : State) : ∃ c k p, s.readFifo = { s with capture := c, cond := k, port := p } ∧
    (s.capture.Bounded → c.Bounded) ∧ k.fault = s.cond.fault := by
  unfold State.readFifo
  split
  · next r rest h =>
    refine ⟨_, _, _, rfl, fun hb => ⟨?_, hb.2⟩, rfl⟩
    have hl := hb.1
    rw [h, List.length_cons] at hl
    exact Nat.le_of_succ_le hl
  · next h => exact ⟨_, _, _, rfl, fun hb => ⟨by simp [h], hb.2⟩, rfl⟩

theorem clearSlots_fits (selector : BitVec 16) {v : Vector Slot 16} (h : ∀ i : Fin 16, v[i].Fits) :
    ∀ i : Fin 16, (clearSlots selector v)[i].Fits := by
  refine windows_vmapIdx (fun i x hx => ?_) h
  split
  · exact hx
  · exact hx

theorem CaptureUnit.clear_bounded (c : CaptureUnit) (b : Bool) (h : c.Bounded) : (c.clear b).Bounded := by
  cases b
  · exact h
  · exact ⟨h.1, Nat.zero_le _⟩

/-- A host command other than START leaves the clock, the ports, the node state, the class and the FAULT flag alone, and keeps the
bounds of the FIFO and the windows. -/
structure State.HostEffect (u t : State) : Prop where
  clock : t.clock = u.clock
  ports : t.ports = u.ports
  nodeState : t.steer.nodeState = u.steer.nodeState
  accuracyClass : t.steer.accuracyClass = u.steer.accuracyClass
  fault : t.cond.fault = u.cond.fault
  fifo : u.capture.Bounded → t.capture.Bounded
  windows : u.WindowsBounded → t.WindowsBounded

theorem HostTakes.effect (h : HostTakes u t) : u.HostEffect t := by
  cases h with
  | stay => exact ⟨rfl, rfl, rfl, rfl, rfl, id, id⟩
  | answer => exact ⟨rfl, rfl, rfl, rfl, rfl, id, id⟩
  | status => exact ⟨rfl, rfl, rfl, rfl, rfl, id, id⟩
  | capture =>
    obtain ⟨c, k, p, e, hc, hk⟩ := u.readFifo_eq
    rw [e]
    exact ⟨rfl, rfl, rfl, rfl, hk, hc, id⟩
  | load _ record =>
    rcases u.loadRecord_cases record with e | ⟨code, data, e⟩ | ⟨-, data, e⟩ <;> rw [e] <;>
      exact ⟨rfl, rfl, rfl, rfl, rfl, id, id⟩
  | restart => exact ⟨rfl, rfl, rfl, rfl, rfl, id, id⟩
  | clear _ conditions slots =>
    exact ⟨rfl, rfl, rfl, rfl, rfl, u.capture.clear_bounded _, clearSlots_fits slots⟩
  | anchorTime _ seconds utcOffset flags =>
    rcases u.takeAnchorTime_cases seconds utcOffset flags with ⟨code, e⟩ | e <;> rw [e] <;>
      exact ⟨rfl, rfl, rfl, rfl, rfl, id, id⟩

/-- The report of a malformed transaction touches the flags and the bytes shifted out (R169). -/
theorem ReportTakes.eq (h : ReportTakes u t) : ∃ k p, t = { u with cond := k, port := p } ∧ u.cond.Grows k := by
  cases h with
  | stay => exact ⟨_, _, rfl, .refl _⟩
  | unknown => exact ⟨_, _, rfl, u.report_grows .command⟩
  | malformed => exact ⟨_, _, rfl, u.report_grows .command⟩

/-! ## FAULT (R22, R113) -/

/-- The node state, the class, the rate adjustment, the step count and the FAULT flag are as before. -/
def State.SameFault (s t : State) : Prop :=
  t.steer.nodeState = s.steer.nodeState ∧ t.steer.accuracyClass = s.steer.accuracyClass ∧ t.clock.rate = s.clock.rate ∧
    t.clock.stepCount = s.clock.stepCount ∧ t.cond.fault = s.cond.fault

theorem State.SameFault.refl (s : State) : s.SameFault s := ⟨rfl, rfl, rfl, rfl, rfl⟩

theorem State.SameFault.trans {a b c : State} (h : a.SameFault b) (h' : b.SameFault c) : a.SameFault c := by
  obtain ⟨h1, h2, h3, h4, h5⟩ := h
  obtain ⟨g1, g2, g3, g4, g5⟩ := h'
  exact ⟨g1.trans h1, g2.trans h2, g3.trans h3, g4.trans h4, g5.trans h5⟩

theorem State.elapse_sameFault (s : State) (e : Elapsed) : s.SameFault (s.elapse e) := by simp [State.SameFault]

theorem State.CaptureMoved.sameFault (h : u.CaptureMoved t) : u.SameFault t := by
  obtain ⟨c, k, rfl, -, hk⟩ := h
  exact ⟨rfl, rfl, rfl, rfl, hk.1⟩

theorem not_running_of_fault (h : u.steer.nodeState = .fault) : u.running ≠ true := by simp [State.running, h, NodeState.running]

/-- No event leaves FAULT: those that act only in the running states do nothing there. -/
theorem EventTakes.sameFault (hf : u.steer.nodeState = .fault) (h : EventTakes u t) : u.SameFault t := by
  have idle := not_running_of_fault hf
  cases h with
  | stay => exact .refl u
  | straps => exact ⟨rfl, rfl, rfl, rfl, rfl⟩
  | gate =>
    rcases u.takeGate_cases with ⟨m, e⟩ | ⟨hw, -⟩ | ⟨hr, -⟩
    · rw [e]; exact ⟨rfl, rfl, rfl, rfl, rfl⟩
    · rw [hf] at hw; cases hw
    · rw [hf] at hr; cases hr
  | monitorTop =>
    obtain ⟨m, o, e⟩ := u.takeMonitorTop_cases
    rw [e]; exact ⟨rfl, rfl, rfl, rfl, rfl⟩
  | linkDrop port receiving =>
    rcases u.dropLink_cases port receiving with e | ⟨b, -, e⟩ <;> rw [e] <;> exact ⟨rfl, rfl, rfl, rfl, rfl⟩
  | linkUp port => rcases u.raiseLink_cases port with e | ⟨-, e⟩ <;> rw [e] <;> exact ⟨rfl, rfl, rfl, rfl, rfl⟩
  | transmit run | egress run | txComplete run | frame run | close run | completion run | slewEnd run | pulse run | miss run
  | anchorExpiry run | half run | channel run => exact absurd run idle
  | top _ tm =>
    obtain ⟨n, w, g, c, o, e⟩ := u.takeTop_cases tm
    rw [e]; exact ⟨rfl, rfl, rfl, rfl, rfl⟩
  | guardExpiry => exact ⟨rfl, rfl, rfl, rfl, rfl⟩
  | pin => exact ⟨rfl, rfl, rfl, rfl, rfl⟩
  | raw _ i level => exact ((u.setEventPin i level).rawChange_moved i level).sameFault
  | filtered _ i => exact (u.takeFiltered_moved i).sameFault

theorem Events.sameFault {held : List HeldEvent} {s v : State} (hf : s.steer.nodeState = .fault) (h : Events held s v) :
    s.SameFault v := by
  induction h with
  | nil s => exact .refl s
  | @cons h rest s t v first _ ih =>
    have he := s.elapse_sameFault h.toInstr.elapsed
    have ht := he.trans (first.sameFault (he.1.trans hf))
    exact ht.trans (ih (ht.1.trans hf))

/-- No command but a reset leaves FAULT. -/
theorem exec_sameFault {c : Instr} {s t : State} (hf : s.steer.nodeState = .fault) (hc : isReset c = false)
    (h : exec c s = .next t) : s.SameFault t := by
  by_cases hs : ∃ e, c = .start e
  · obtain ⟨e, rfl⟩ := hs
    have he := s.elapse_sameFault e
    simp only [exec, execStart, Host.Outcome.next.injEq] at h
    rw [← h]
    split
    · exact he
    · rcases (s.elapse e).startNode_cases with ⟨code, e'⟩ | ⟨hn, -⟩
      · rw [e']; exact he
      · rw [he.1, hf] at hn; cases hn
  · obtain ⟨v, t', hv, ht, htakes⟩ := exec_takes c s hc fun e he => hs ⟨e, he⟩
    rw [ht] at h
    cases h
    have h1 := hv.sameFault hf
    have h2 := h1.trans (v.elapse_sameFault c.elapsed)
    refine h2.trans ?_
    rcases htakes with hr | ⟨-, hh | he⟩
    · obtain ⟨k, p, rfl, hk⟩ := hr.eq
      exact ⟨rfl, rfl, rfl, rfl, hk.1⟩
    · have h3 := hh.effect
      exact ⟨h3.nodeState, h3.accuracyClass, by rw [h3.clock], by rw [h3.clock], h3.fault⟩
    · exact he.sameFault (h2.1.trans hf)

/-- Settles O55: along the cases of the commands, each of which in FAULT leaves what the entry has set. -/
theorem faultLastsUntilReset : Obligations.FaultLastsUntilReset := by
  intro s t hf hreset hstep
  have same : s.SameFault t := by
    unfold step at hstep
    split at hstep
    · cases hstep
      exact s.elapse_sameFault _
    · next c rest hp => exact exec_sameFault (s := s.setPending rest) hf (hreset c rest hp) hstep
  obtain ⟨hn, hrest⟩ := same
  exact ⟨hn.trans hf, hrest⟩

/-! ## The step count (R13, R37, R169) -/

/-- Held back events move the step count by at most one each, and STEPPED is set where any has moved it (R169). -/
theorem Events.steps {held : List HeldEvent} {s v : State} (h : Events held s v) :
    v.clock.stepCount = s.clock.stepCount ∨ ∃ n, n ≤ held.length ∧
      v.clock.stepCount = s.clock.stepCount + BitVec.ofNat 8 n ∧ v.flag 2 = true := by
  induction h with
  | nil s => exact .inl rfl
  | @cons h rest s t v first hrest ih =>
    have heff := first.effect
    have hflag (hf : t.flag 2 = true) : v.flag 2 = true := by
      clear ih heff first
      induction hrest with
      | nil => exact hf
      | cons first _ ih => exact ih (first.effect.flags 2 (by simpa [State.flag] using hf))
    rcases heff.steps with hs | ⟨hs, hf, -⟩ <;> rw [State.elapse_stepCount] at hs
    · rw [hs] at ih
      exact ih.imp id fun ⟨n, hn, hv⟩ => ⟨n, Nat.le_succ_of_le hn, hv⟩
    · right
      rcases ih with hv | ⟨n, hn, hv, hvf⟩
      · exact ⟨1, by simp, by rw [hv, hs], hflag hf⟩
      · refine ⟨n + 1, by simpa using hn, ?_, hvf⟩
        rw [hv, hs, BitVec.add_assoc, Nat.add_comm n 1, BitVec.ofNat_add]

/-- Settles O56: an event takes at most one STEP, which reports itself; no host command but START takes any. -/
theorem everyStepIsReported : Obligations.EveryStepIsReported := by
  intro c s t hc hs h
  obtain ⟨v, t', hv, ht, htakes⟩ := exec_takes c s hc hs
  rw [ht] at h
  cases h
  constructor
  · intro hnil
    rw [hnil] at hv
    cases hv
    rcases htakes with hr | ⟨-, hh | he⟩
    · obtain ⟨k, p, rfl, -⟩ := hr.eq
      exact .inl (by simp)
    · exact .inl (by rw [hh.effect.clock]; simp)
    · simpa [State.StepReported] using he.effect.steps
  · intro hheld
    rcases htakes with hr | ⟨hnil, -⟩
    · obtain ⟨k, p, rfl, hk⟩ := hr.eq
      refine hv.steps.imp (fun h => by simpa using h) fun ⟨n, hn, hsc, hf⟩ => ⟨n, hn, by simpa using hsc, hk.2 2 ?_⟩
      simpa [State.flag] using hf
    · exact absurd hnil hheld

/-! ## The bounds (R8, R36, R52, R53, R160) -/

/-- The bounds of the rate adjustment, the FIFO, the histories and the windows are kept. -/
def State.KeepsBounds (s t : State) : Prop :=
  (s.RateBounded → t.RateBounded) ∧ (s.FifoBounded → t.FifoBounded) ∧ (s.HistoriesBounded → t.HistoriesBounded) ∧
    (s.WindowsBounded → t.WindowsBounded)

theorem State.KeepsBounds.refl (s : State) : s.KeepsBounds s := ⟨id, id, id, id⟩

theorem State.KeepsBounds.trans {a b c : State} (h : a.KeepsBounds b) (h' : b.KeepsBounds c) : a.KeepsBounds c := by
  obtain ⟨h1, h2, h3, h4⟩ := h
  obtain ⟨g1, g2, g3, g4⟩ := h'
  exact ⟨g1 ∘ h1, g2 ∘ h2, g3 ∘ h3, g4 ∘ h4⟩

/-- A rate step keeps the bound of the rate adjustment, whatever the rate was (R8). -/
theorem rateAfter_bounded (a d : Int) : -100000000 ≤ rateAfter a d ∧ rateAfter a d ≤ 100000000 :=
  abs_le.mp (clampTo_le (by decide))

theorem State.Effect.keepsBounds (h : u.Effect t) : u.KeepsBounds t := by
  refine ⟨fun hr => ?_, h.fifo, fun hh p => h.histories p (hh p), h.windows⟩
  rcases h.rate with e | ⟨d, e⟩ <;> rw [State.RateBounded, e]
  · exact hr
  · exact rateAfter_bounded _ d

theorem State.HostEffect.keepsBounds (h : u.HostEffect t) : u.KeepsBounds t :=
  ⟨fun hr => by rw [State.RateBounded, h.clock]; exact hr, h.fifo,
    fun hh => by rw [State.HistoriesBounded, h.ports]; exact hh, h.windows⟩

theorem State.elapse_keepsBounds (s : State) (e : Elapsed) : s.KeepsBounds (s.elapse e) := by
  simp [State.KeepsBounds, State.RateBounded, State.FifoBounded, State.HistoriesBounded, State.WindowsBounded]

theorem Events.keepsBounds {held : List HeldEvent} {s v : State} (h : Events held s v) : s.KeepsBounds v := by
  induction h with
  | nil s => exact .refl s
  | @cons h rest s t v first _ ih => exact ((s.elapse_keepsBounds _).trans first.effect.keepsBounds).trans ih

section Begin

variable (s : State)

@[simp] theorem State.begin_pending : s.begin.pending = s.pending := by simp [State.begin]
@[simp] theorem State.begin_idleCount : s.begin.idleCount = s.idleCount := by simp [State.begin]
@[simp] theorem State.begin_pins : s.begin.pins = s.pins := by simp [State.begin]
@[simp] theorem State.begin_clock : s.begin.clock = s.startClock := by simp [State.begin]
@[simp] theorem State.begin_monitor : s.begin.monitor = s.monitor := by simp [State.begin]
@[simp] theorem State.begin_ports : s.begin.ports = s.ports.map LinkPort.atStart := by simp [State.begin]
@[simp] theorem State.begin_slots : s.begin.slots = s.slots := by simp [State.begin]
@[simp] theorem State.begin_published : s.begin.published = s.published := by simp [State.begin]
@[simp] theorem State.begin_round : s.begin.round = { s.round with quiet := 0 } := by simp [State.begin]
@[simp] theorem State.begin_steer : s.begin.steer = { Steering.reset with nodeState := .listen } := by simp [State.begin]
@[simp] theorem State.begin_ref : s.begin.ref = RefUnit.reset := by simp [State.begin]
@[simp] theorem State.begin_outs : s.begin.outs = s.outs.atStart (s.config.envelopes .listen) := by simp [State.begin]
@[simp] theorem State.begin_code : s.begin.code = CodeComposer.reset := by simp [State.begin]
@[simp] theorem State.begin_capture : s.begin.capture = s.capture.atStart s.config s.pins.event := by simp [State.begin]
@[simp] theorem State.begin_cond : s.begin.cond = s.cond := by simp [State.begin]
@[simp] theorem State.begin_port : s.begin.port = { s.port with locked := true } := by simp [State.begin]

end Begin

/-- START keeps the rate adjustment and the FIFO and empties the histories (R15, R36). -/
theorem State.begin_keepsBounds (s : State) : s.KeepsBounds s.begin :=
  ⟨fun h => by rw [State.RateBounded, State.begin_clock]; exact h,
    fun h => by rw [State.FifoBounded, State.begin_capture]; exact h,
    fun _ p => by rw [State.begin_ports, Pair.get_map]; exact Nat.zero_le _,
    fun h => by rw [State.windowsBounded_iff, State.begin_slots]; exact h⟩

/-- A reset that keeps the rate adjustment or sets it to 0 meets every bound (R20, R23). -/
theorem State.resetTo_keepsBounds (s : State) (cause : ResetCause) (straps : BitVec 4) (rate : Int)
    (record : Option ConfigRecord) (h : rate = s.clock.rate ∨ rate = 0) :
    s.KeepsBounds (s.resetTo cause straps rate record) := by
  refine ⟨fun hr => ?_, fun _ => ⟨Nat.zero_le _, Nat.zero_le _⟩, fun _ p => by cases p <;> exact Nat.zero_le _, fun _ i p => ?_⟩
  · rcases h with rfl | rfl
    · exact hr
    · exact ⟨by simp [State.resetTo], by simp [State.resetTo]⟩
  · have hw : (s.resetTo cause straps rate record).slots[i] = Slot.reset := by simp [State.resetTo]
    rw [hw]
    cases p <;> exact windowFits_nil

/-- Every reset keeps the bounds. -/
theorem exec_reset_keepsBounds {c : Instr} {s t : State} (hc : isReset c = true) (h : exec c s = .next t) : s.KeepsBounds t := by
  cases c with
  | supplyReset e straps => cases h; exact (s.elapse_keepsBounds e).trans (State.resetTo_keepsBounds _ _ _ _ _ (.inr rfl))
  | resetPinAssert e =>
    cases h
    refine (s.elapse_keepsBounds e).trans ?_
    unfold State.assertPin
    split
    · exact .refl _
    · exact State.resetTo_keepsBounds ((s.elapse e).setResetPin true) _ _ _ _ (.inl rfl)
  | resetPinRelease e straps =>
    cases h
    refine (s.elapse_keepsBounds e).trans ?_
    unfold State.releasePin
    split
    · exact State.resetTo_keepsBounds ((s.elapse e).setResetPin false) _ _ _ _ (.inl rfl)
    · exact .refl _
  | commandReset e straps =>
    cases h
    refine (s.elapse_keepsBounds e).trans ?_
    unfold State.commandReset
    split
    · exact State.resetTo_keepsBounds _ _ _ _ _ (.inl rfl)
    · exact .refl _
  | _ => cases hc

/-- Every command keeps the bounds. -/
theorem exec_keepsBounds {c : Instr} {s t : State} (h : exec c s = .next t) : s.KeepsBounds t := by
  cases hc : isReset c with
  | true => exact exec_reset_keepsBounds hc h
  | false =>
    by_cases hs : ∃ e, c = .start e
    · obtain ⟨e, rfl⟩ := hs
      simp only [exec, execStart, Host.Outcome.next.injEq] at h
      rw [← h]
      refine (s.elapse_keepsBounds e).trans ?_
      split
      · exact .refl _
      · rcases (s.elapse e).startNode_cases with ⟨code, e'⟩ | ⟨-, e'⟩ <;> rw [e']
        · exact .refl (s.elapse e)
        · exact (s.elapse e).begin_keepsBounds
    · obtain ⟨v, t', hv, ht, htakes⟩ := exec_takes c s hc fun e he => hs ⟨e, he⟩
      rw [ht] at h
      cases h
      refine (hv.keepsBounds.trans (v.elapse_keepsBounds c.elapsed)).trans ?_
      rcases htakes with hr | ⟨-, hh | he⟩
      · obtain ⟨k, p, rfl, -⟩ := hr.eq
        exact .refl (v.elapse c.elapsed)
      · exact hh.effect.keepsBounds
      · exact he.effect.keepsBounds

/-- Settles O58: every command, and the passing of time in an idle step, keeps each bound. -/
theorem everyStepKeepsBounds : Obligations.EveryStepKeepsBounds := by
  intro s t hstep
  unfold step at hstep
  split at hstep
  · cases hstep
    exact s.elapse_keepsBounds (idleElapsed s.idleCount)
  · next c rest hp => exact exec_keepsBounds (s := s.setPending rest) hstep

/-! ## A held part (R20, R131) -/

/-- While a reset is held an event moves at most the level of an input pin (log entry 6). -/
theorem EventTakes.held (hu : u.held = true) (h : EventTakes u t) : ∃ pins, pins.resetAsserted = true ∧ t = u.setPins pins := by
  have stays : ∃ pins : Pins, pins.resetAsserted = true ∧ u = u.setPins pins := ⟨u.pins, hu, rfl⟩
  have idle : u.running ≠ true := by simp [State.running, hu]
  have stopped : u.clocked ≠ true := by simp [State.clocked, hu]
  have noLink : u.followsLink ≠ true := by simp [State.followsLink, hu]
  cases h with
  | stay => exact stays
  | straps due => simp [State.strapsDue, hu] at due
  | gate due => simp [State.gateDue, hu] at due
  | monitorTop free => rw [hu] at free; cases free
  | linkDrop port receiving =>
    rcases u.dropLink_cases port receiving with e | ⟨_, h, _⟩
    · exact ⟨(u.setLinkPin port false).pins, hu, e⟩
    · exact absurd h noLink
  | linkUp port =>
    rcases u.raiseLink_cases port with e | ⟨h, _⟩
    · exact ⟨(u.setLinkPin port true).pins, hu, e⟩
    · exact absurd h noLink
  | transmit run | egress run | txComplete run | frame run | close run | completion run | slewEnd run | pulse run | miss run
  | anchorExpiry run | half run | channel run => exact absurd run idle
  | top run | guardExpiry run | raw run | filtered run => exact absurd run stopped
  | pin i level => exact ⟨(u.setEventPin i level).pins, hu, rfl⟩

theorem Events.held {held : List HeldEvent} {s v : State} (hs : s.held = true) (h : Events held s v) :
    ∃ pins, pins.resetAsserted = true ∧ v = s.setPins pins := by
  induction h with
  | nil s => exact ⟨s.pins, hs, rfl⟩
  | cons first _ ih =>
    rw [State.elapse_of_held _ _ hs] at first
    obtain ⟨p, hp, rfl⟩ := first.held hs
    obtain ⟨q, hq, e⟩ := ih hp
    exact ⟨q, hq, e⟩

theorem HostTakes.held (hu : u.held = true) (h : HostTakes u t) : t = u := by
  cases h with
  | stay => rfl
  | answer free | status free | capture free | load free | restart free | clear free | anchorTime free =>
    rw [hu] at free; cases free

theorem ReportTakes.held (hu : u.held = true) (h : ReportTakes u t) : t = u := by
  cases h with
  | stay => rfl
  | unknown free | malformed free => rw [hu] at free; cases free

/-- Settles O10: while a reset is held no time passes and every guard but that of the input pins fails. -/
theorem heldPartIgnores : Obligations.HeldPartIgnores := by
  intro c s hs hc
  have hheld : s.held = true := hs
  by_cases hstart : ∃ e, c = .start e
  · obtain ⟨e, rfl⟩ := hstart
    refine ⟨s.pins, hs, ?_⟩
    simp [exec, execStart, s.elapse_of_held e hheld, hheld]
  · obtain ⟨v, t, hv, ht, htakes⟩ := exec_takes c s hc fun e he => hstart ⟨e, he⟩
    obtain ⟨p, hp, rfl⟩ := hv.held hheld
    have hp' : (s.setPins p).held = true := hp
    rw [State.elapse_of_held _ _ hp'] at htakes
    rw [ht]
    rcases htakes with hr | ⟨-, hh | he⟩
    · exact ⟨p, hp, by rw [hr.held hp']⟩
    · exact ⟨p, hp, by rw [hh.held hp']⟩
    · obtain ⟨q, hq, rfl⟩ := he.held hp'
      exact ⟨q, hq, rfl⟩

end Sys2Proof.Machine
end

section
/-! SUPPORT. The Node Clock's arithmetic: readings add up, and residues counted at once or in two parts agree (R2, R3, R11). -/

namespace Sys2Proof

/-! ## Timestamps (R2, R4) -/

theorem Timestamp.ofInt_val (z : Int) : ((Timestamp.ofInt z).qns.val : Int) = z % (timestampCount : Int) :=
  Int.toNat_of_nonneg (Int.emod_nonneg z (by decide))

theorem Timestamp.ofInt_congr {a b : Int} (h : a % (timestampCount : Int) = b % (timestampCount : Int)) :
    Timestamp.ofInt a = Timestamp.ofInt b := by
  simp only [Timestamp.ofInt, h]

/-- Advances of a reading add up. -/
theorem Timestamp.plus_plus (t : Timestamp) (a b : Int) : (t.plus a).plus b = t.plus (a + b) := by
  unfold Timestamp.plus
  rw [Timestamp.ofInt_val]
  apply Timestamp.ofInt_congr
  rw [Int.emod_add_emod, Int.add_assoc]

@[simp] theorem Timestamp.plus_zero (t : Timestamp) : t.plus 0 = t := by
  have h : (t.qns.val : Int) % (timestampCount : Int) = t.qns.val :=
    Int.emod_eq_of_lt (Int.natCast_nonneg _) (Int.ofNat_lt.mpr t.qns.isLt)
  have e : (Timestamp.ofInt (t.qns.val : Int)).qns.val = t.qns.val := by
    have := Timestamp.ofInt_val (t.qns.val : Int)
    rw [h] at this
    exact_mod_cast this
  obtain ⟨q⟩ := t
  simp only [Timestamp.plus, Int.add_zero]
  exact congrArg Timestamp.mk (Fin.ext e)

end Sys2Proof

namespace Sys2Proof.Machine

/-! ## Residues (R3, R11, log entry 22) -/

/-- Growing contributions carried in two parts give the whole units and the rest of both at once. -/
theorem carry_add_of_nonneg {unit r a : Int} (hu : 0 < unit) (hr : -unit < r) (ha : 0 ≤ a) (m n : Nat) :
    let first := r + (m : Int) * a
    let all := r + ((m + n : Nat) : Int) * a
    first.tdiv unit + (first.tmod unit + (n : Int) * a).tdiv unit = all.tdiv unit ∧
      (first.tmod unit + (n : Int) * a).tmod unit = all.tmod unit := by
  intro first all
  have hma : 0 ≤ (m : Int) * a := mul_nonneg (Int.natCast_nonneg m) ha
  have hna : 0 ≤ (n : Int) * a := mul_nonneg (Int.natCast_nonneg n) ha
  have hall : all = first + (n : Int) * a := by simp only [all, first]; push_cast; ring
  rcases lt_or_ge first 0 with hneg | hpos
  · have hlt : -first < unit := by omega
    have hq : first.tdiv unit = 0 := by
      have := Int.tdiv_eq_zero_of_lt (a := -first) (b := unit) (by omega) hlt
      rw [Int.neg_tdiv] at this
      omega
    have hm : first.tmod unit = first := by
      have := Int.tdiv_mul_add_tmod first unit
      rw [hq] at this
      omega
    rw [hq, hm, ← hall]
    exact ⟨Int.zero_add _, rfl⟩
  · have hs := Int.tdiv_mul_add_tmod first unit
    have hrest : 0 ≤ first.tmod unit := Int.tmod_nonneg unit hpos
    have hsum : all = (first.tmod unit + (n : Int) * a) + unit * first.tdiv unit := by rw [hall, mul_comm unit]; omega
    have h1 : 0 ≤ first.tmod unit + (n : Int) * a := by omega
    have h2 : 0 ≤ all := by omega
    rw [Int.tdiv_eq_ediv_of_nonneg h1, Int.tdiv_eq_ediv_of_nonneg h2, Int.tmod_eq_emod_of_nonneg h1,
      Int.tmod_eq_emod_of_nonneg h2, hsum, Int.add_mul_ediv_left _ _ (ne_of_gt hu), Int.add_mul_emod_self_left]
    exact ⟨add_comm _ _, rfl⟩

/-- Contributions of one sign carried in two parts give the whole units and the rest of both at once: a residue is cut toward
zero, and it is smaller than a unit. -/
theorem carry_add {unit r : Int} (hu : 0 < unit) (hl : -unit < r) (hr : r < unit) (a : Int) (m n : Nat) :
    (r + (m : Int) * a).tdiv unit + ((r + (m : Int) * a).tmod unit + (n : Int) * a).tdiv unit =
        (r + ((m + n : Nat) : Int) * a).tdiv unit ∧
      ((r + (m : Int) * a).tmod unit + (n : Int) * a).tmod unit = (r + ((m + n : Nat) : Int) * a).tmod unit := by
  rcases le_total 0 a with ha | ha
  · exact carry_add_of_nonneg hu hl ha m n
  · obtain ⟨hd, hm⟩ := carry_add_of_nonneg (r := -r) (a := -a) hu (by omega) (by omega) m n
    have e (k : Nat) : -r + (k : Int) * -a = -(r + (k : Int) * a) := by ring
    have e' : -((r + (m : Int) * a).tmod unit) + (n : Int) * -a = -((r + (m : Int) * a).tmod unit + (n : Int) * a) := by ring
    simp only [e, Int.neg_tmod, e', Int.neg_tdiv] at hd hm
    exact ⟨by omega, by omega⟩

/-- A slew advanced in two parts (R11). -/
theorem advanceSlew_add (w : Option Slew) (m n : Nat)
    (h : ∀ x, w = some x → -1000000000000 < x.residue ∧ x.residue < 1000000000000) :
    (advanceSlew (advanceSlew w m).1 n).1 = (advanceSlew w (m + n)).1 ∧
      (advanceSlew w m).2 + (advanceSlew (advanceSlew w m).1 n).2 = (advanceSlew w (m + n)).2 := by
  cases w with
  | none => exact ⟨rfl, rfl⟩
  | some x =>
    obtain ⟨hl, hr⟩ := h x rfl
    obtain ⟨hd, hm⟩ := carry_add (unit := (Config.residueUnit : Int)) (by decide) hl hr
      ((Config.qnsPerCycle : Int) * x.term) m n
    simp only [advanceSlew, Slew.advance]
    rw [hm, ← hd, Int.add_assoc]
    exact ⟨rfl, rfl⟩

/-- Settles O4: the reading adds up, and each residue carries the same whole units in two parts as at once. -/
theorem clockAdvanceAdds : Obligations.ClockAdvanceAdds := by
  intro k m n hl hr hw
  obtain ⟨hd, hm⟩ := carry_add (unit := (Config.residueUnit : Int)) (by decide) hl hr ((Config.qnsPerCycle : Int) * k.rate) m n
  obtain ⟨hs, hq⟩ := advanceSlew_add k.slew m n hw
  refine ⟨?_, hq⟩
  simp only [Clock.advance]
  rw [hm, hs, Timestamp.plus_plus, ← hd, ← hq]
  congr 2
  push_cast
  ring

/-! ## What time moves (R3, R11, R17 to R19, R116, R144, R156) -/

/-- The correction total takes whole qns while a last pulse stamp is held; beyond 64 bits it is a free value (R116, log entry
14). -/
theorem RefUnit.correct_spec (r : RefUnit) (q : Int) :
    r.correct q = { r with correction := (r.correct q).correction } ∧
    (r.lastPulse = none → (r.correct q).correction = r.correction) ∧
    (r.lastPulse ≠ none → -9223372036854775808 ≤ r.correction + q → r.correction + q ≤ 9223372036854775807 →
      (r.correct q).correction = r.correction + q) := by
  rcases r.correct_cases q with ⟨hp, e⟩ | ⟨hp, e⟩
  · rw [e]
    exact ⟨rfl, fun _ => rfl, fun h => absurd hp h⟩
  · rw [e]
    exact ⟨rfl, fun h => absurd h hp, fun _ h1 h2 => int64_of_mem h1 h2⟩

theorem State.elapse_of_clocked (s : State) (e : Elapsed) (hh : s.held = false) (hc : s.steer.nodeState.clocked = true) :
    s.elapse e = (s.setMonitor (s.monitor.advance e)).runClock e.main := by
  simp [State.elapse, hh, hc]

theorem State.elapse_of_stopped (s : State) (e : Elapsed) (hh : s.held = false) (hc : s.steer.nodeState.clocked = false) :
    s.elapse e = s.setMonitor (s.monitor.advance e) := by
  simp [State.elapse, hh, hc]

theorem State.elapse_monitor (s : State) (e : Elapsed) (hh : s.held = false) :
    (s.elapse e).monitor = s.monitor.advance e := by
  cases hc : s.steer.nodeState.clocked
  · rw [s.elapse_of_stopped e hh hc]; rfl
  · rw [s.elapse_of_clocked e hh hc]; rfl

/-- Time moves the clock, the correction total, the candidates and the monitor, and nothing else. -/
theorem State.elapse_frame (s : State) (e : Elapsed) : s.elapse e = { s with
    clock := (s.elapse e).clock, ref := (s.elapse e).ref, capture := (s.elapse e).capture
    monitor := (s.elapse e).monitor } := by
  cases hh : s.held
  · cases hc : s.steer.nodeState.clocked
    · rw [s.elapse_of_stopped e hh hc]; rfl
    · rw [s.elapse_of_clocked e hh hc]; rfl
  · rw [s.elapse_of_held e hh]

/-- Settles O5: the clock's carries by the division of the totals, the rest field by field. -/
theorem cyclesAdvanceReading : Obligations.CyclesAdvanceReading := by
  intro s e t m splits
  have carries (total : Int) : splits total (total.tdiv 1000000000000) (total.tmod 1000000000000) :=
    tdiv_tmod_spec total (by decide)
  refine ⟨fun hh hc => ?_, fun hc => ?_, fun hh => ⟨s.elapse_frame e, ?_⟩, fun hh => s.elapse_of_held e hh⟩
  · have ht : t = (s.setMonitor (s.monitor.advance e)).runClock e.main := s.elapse_of_clocked e hh hc
    have hclock : t.clock = (s.clock.advance e.main).1 := by rw [ht]; rfl
    have href : t.ref = s.ref.correct (advanceSlew s.clock.slew e.main).2 := by rw [ht]; rfl
    have hcapture : t.capture = { s.capture with inputs := vmap (·.advance e.main) s.capture.inputs } := by rw [ht]; rfl
    obtain ⟨hr1, hr2, hr3⟩ := s.ref.correct_spec (advanceSlew s.clock.slew e.main).2
    rw [hclock, href, hcapture]
    refine ⟨(s.clock.residue + (e.main : Int) * (40 * s.clock.rate)).tdiv 1000000000000,
      (advanceSlew s.clock.slew e.main).2, ?_, carries _, rfl, ?_, ?_, hr1, hr2, hr3, rfl, ?_⟩
    · simp only [Clock.advance]
      congr 1
      push_cast
      ring
    · intro hn
      simp [Clock.advance, hn, advanceSlew]
    · intro w hw
      refine ⟨(w.residue + (e.main : Int) * (40 * w.term)).tmod 1000000000000, ?_, ?_⟩
      · simp only [hw, advanceSlew, Slew.advance]
        exact carries _
      · simp [Clock.advance, hw, advanceSlew, Slew.advance]
    · intro k
      simp only [Fin.getElem_fin, vmap_get, EventInput.advance]
      exact ⟨trivial, fun h => by rw [h]; rfl, fun c h => by rw [h]; rfl⟩
  · cases hh : s.held
    · have ht : t = s.setMonitor (s.monitor.advance e) := s.elapse_of_stopped e hh hc
      rw [ht]
      exact ⟨rfl, rfl, rfl⟩
    · have ht : t = s := s.elapse_of_held e hh
      rw [ht]
      exact ⟨rfl, rfl, rfl⟩
  · have ht : t.monitor = s.monitor.advance e := s.elapse_monitor e hh
    rw [ht]
    simp only [m, Monitor.advance]
    cases s.monitor.cause <;> rfl

/-! ## SLEW_END (R11) -/

/-- Settles O32: the settlement of the slew at its end. -/
theorem slewEndSettles : Obligations.SlewEndSettles := by
  intro e s w u rest hh hrun hw
  have hr : u.running = true := by simp [State.running, State.held, hh, hrun]
  obtain ⟨h1, h2, h3⟩ := u.ref.correct_spec rest
  have hexec (b : Bool) (hb : u.clock.reading.reached w.finish = b) :
      exec (.slewEnd e) s = .next (if b then u.settleSlew else u) := by
    simp only [exec, execSlewEnd]
    rw [show (s.elapse e).clock.slew = some w from hw]
    simp only
    rw [show (s.elapse e).running = true from hr, show (s.elapse e).clock.reading.reached w.finish = b from hb]
    rfl
  refine ⟨fun hb => ⟨(u.ref.correct rest).correction, ?_, h2, h3⟩, fun hb => hexec false hb⟩
  rw [hexec true hb, if_pos rfl, ← h1]
  rcases u.settleSlew_cases with ⟨hn, -⟩ | ⟨w', hw', e'⟩
  · rw [hw] at hn; cases hn
  · rw [hw] at hw'
    cases hw'
    rw [e']
    rfl

end Sys2Proof.Machine
end

section
/-! SUPPORT. Resets, warm-up and gates: the values a reset sets (R20, R23), the strap sample (R21), the gate end (R18, R19) and
the entry into FAULT (R22). -/

namespace Sys2Proof.Machine

variable (s : State)

/-! ## Resets (R20, R23) -/

/-- What every reset sets (R20, R23). -/
theorem State.resetTo_afterReset (cause : ResetCause) (straps : BitVec 4) (rate : Int) (record : Option ConfigRecord) :
    AfterReset (s.resetTo cause straps rate record) cause straps rate record where
  clock := rfl
  monitor := rfl
  ports p := by cases p <;> simp [State.resetTo, LinkPort.reset]
  slots i := by simp [State.resetTo, Published.reset]
  published := rfl
  round := ⟨rfl, rfl, rfl, rfl⟩
  steer := rfl
  ref := rfl
  outs := rfl
  code := rfl
  capture := rfl
  cond := rfl
  port := ⟨rfl, rfl, rfl, rfl⟩

/-- Settles O6. -/
theorem supplyResetSetsValues : Obligations.SupplyResetSetsValues := fun e straps s =>
  ⟨_, rfl, (s.elapse e).resetTo_afterReset .powerOn straps 0 none, s.elapse_pins e, s.elapse_pending e⟩

/-- Settles O8: while the reset is held no time passes, and the release resets with the rate adjustment kept. -/
theorem pinReleaseSetsValues : Obligations.PinReleaseSetsValues := by
  intro e straps s
  refine ⟨fun h => ⟨(s.setResetPin false).resetTo .pin straps s.clock.rate none, ?_,
    State.resetTo_afterReset _ .pin straps s.clock.rate none, rfl, rfl⟩, fun h => ?_⟩
  · simp [exec, execResetPinRelease, State.releasePin, s.elapse_of_held e h, show s.held = true from h]
  · simp [exec, execResetPinRelease, State.releasePin, show s.held = false from h]

/-- Settles O9. -/
theorem commandResetSetsValues : Obligations.CommandResetSetsValues := by
  intro e straps s hh
  refine ⟨fun h => ⟨(s.elapse e).resetTo .restart straps s.clock.rate s.port.record, ?_,
    State.resetTo_afterReset _ .restart straps s.clock.rate s.port.record, s.elapse_pins e, s.elapse_pending e⟩, fun h => ?_⟩
  · simp [exec, execCommandReset, State.commandReset, show s.held = false from hh, h]
  · simp [exec, execCommandReset, State.commandReset, h]

/-- Settles O60: at a power-on reset the rate is 0, the FIFO, the histories and the windows are empty, every slot is VACANT, and
the node is in WARMUP. -/
theorem invariantsHoldAtReset : Obligations.InvariantsHoldAtReset := by
  have slots (i : Fin 16) : State.reset.slots[i] = Slot.reset := by simp [State.reset]
  refine ⟨⟨by decide, by decide⟩, ⟨Nat.zero_le _, Nat.zero_le _⟩, fun p => by cases p <;> exact Nat.zero_le _, fun i p => ?_,
    ⟨by rw [slots]; rfl, fun _ => ⟨rfl, fun i => by rw [slots]; rfl⟩⟩, ⟨nofun, nofun⟩⟩
  rw [slots]
  cases p <;> exact windowFits_nil

/-! ## The second strap sample (R21) -/

/-- Settles O11. -/
theorem strapSampleSetsId : Obligations.StrapSampleSetsId := by
  intro e straps s u hh hv hw
  have due : (s.elapse e).strapsDue = true := by
    simp only [State.strapsDue, Monitor.warmedUp, Bool.and_eq_true, Bool.not_eq_true', decide_eq_true_eq]
    exact ⟨⟨hh, hv⟩, hw⟩
  simp only [exec, execStrapSample, due, if_true]
  rfl

/-! ## Gate ends (R18, R19, R25) -/

theorem gatePasses_iff (n : Nat) : gatePasses n = true ↔ 61440 ≤ n ∧ n ≤ 163840 := by simp [gatePasses]

theorem Monitor.nextGate_eq (m : Monitor) (passes : Nat) :
    m.nextGate passes = { m with gatePosition := m.gatePosition - 1024, gateCount := 0, passes := passes } := by
  simp only [Monitor.nextGate, Config.gateCycles]

/-- A gate end that is due is taken (R18). -/
theorem State.exec_gateEnd (e : Elapsed) (hh : (s.elapse e).pins.resetAsserted = false)
    (hd : 1024 ≤ (s.elapse e).monitor.gatePosition) : exec (.gateEnd e) s = .next (s.elapse e).takeGate := by
  have due : (s.elapse e).gateDue = true := by
    simp only [State.gateDue, Bool.and_eq_true, Bool.not_eq_true', decide_eq_true_eq]
    exact ⟨hh, hd⟩
  simp only [exec, execGateEnd, due, if_true]

/-- The passes that a gate end leaves (R18). -/
theorem passesAfter_eq (n passes : Nat) :
    passesAfter (gatePasses n) passes = if 61440 ≤ n ∧ n ≤ 163840 then min 2 (passes + 1) else 0 := by
  simp only [passesAfter, gatePasses_iff, satSucc]

/-- A gate end in a running state: the next gate, or the entry into FAULT (R18, R22). -/
theorem State.takeGate_of_running (h : s.steer.nodeState.running = true) :
    s.takeGate =
      let v := s.setMonitor (s.monitor.nextGate (passesAfter (gatePasses s.monitor.gateCount) s.monitor.passes))
      if gatePasses s.monitor.gateCount then v else v.enterFault := by
  unfold State.takeGate
  cases hn : s.steer.nodeState
  case warmup | config | fault => rw [hn] at h; cases h
  case listen | acquire | track | holdover | anchored => rfl

/-- A gate end outside FAULT, unless it fails in a running state, begins the next gate with the passes that R18 counts, and leaves
WARMUP at the second pass (R19). -/
theorem State.takeGate_of_pass (hf : s.steer.nodeState ≠ .fault)
    (hp : s.steer.nodeState.running = true → gatePasses s.monitor.gateCount = true) :
    s.takeGate =
      let n := passesAfter (gatePasses s.monitor.gateCount) s.monitor.passes
      let v := s.setMonitor (s.monitor.nextGate n)
      if s.steer.nodeState = .warmup ∧ s.monitor.cause.warmUpCount ≤ s.monitor.warmCount ∧ n = 2 then v.leaveWarmup else v := by
  by_cases hr : s.steer.nodeState.running = true
  · have hw : s.steer.nodeState ≠ .warmup := fun h => by rw [h] at hr; cases hr
    rw [s.takeGate_of_running hr]
    simp [hp hr, hw]
  · unfold State.takeGate
    cases hn : s.steer.nodeState
    case warmup =>
      simp only [Monitor.warmedUp, Bool.and_eq_true, decide_eq_true_eq, true_and]
      simp only [State.setMonitor_monitor, Monitor.nextGate_eq]
    case config => simp
    case fault => exact absurd hn hf
    case listen | acquire | track | holdover | anchored => rw [hn] at hr; exact absurd rfl hr

/-- Settles O12. -/
theorem gateEndCountsPasses : Obligations.GateEndCountsPasses := by
  intro e s u pass n m enters hh hd hp
  have hexec : exec (.gateEnd e) s = .next u.takeGate := s.exec_gateEnd e hh hd
  rw [hexec]
  by_cases hf : u.steer.nodeState = .fault
  · have hn : n = u.monitor.passes := if_pos hf
    have htake : u.takeGate = u.setMonitor (u.monitor.nextGate u.monitor.passes) := by unfold State.takeGate; rw [hf]
    refine ⟨fun h => ?_, fun _ => ?_⟩
    · obtain ⟨hw, -⟩ := h
      rw [hf] at hw; cases hw
    · rw [htake, ← hn, Monitor.nextGate_eq]; rfl
  · have hn : passesAfter (gatePasses u.monitor.gateCount) u.monitor.passes = n := by
      rw [passesAfter_eq]; exact (if_neg hf).symm
    have htake : u.takeGate = if enters then (u.setMonitor m).leaveWarmup else u.setMonitor m := by
      rw [u.takeGate_of_pass hf fun hr => (gatePasses_iff _).mpr (hp hr), hn]
      simp only [Monitor.nextGate_eq]
      rfl
    refine ⟨fun h => ?_, fun h => ?_⟩
    · rw [htake, if_pos h]
      simp only [State.leaveWarmup, State.setMonitor, State.setSteer, State.setPorts, m]
    · rw [htake, if_neg h]
      rfl

/-! ## The entry into FAULT (R22) -/

/-- Two states that agree field by field are one. -/
theorem State.eq_of_fields {s t : State} (pending : s.pending = t.pending) (idleCount : s.idleCount = t.idleCount)
    (pins : s.pins = t.pins) (clock : s.clock = t.clock) (monitor : s.monitor = t.monitor) (ports : s.ports = t.ports)
    (slots : s.slots = t.slots) (published : s.published = t.published) (round : s.round = t.round)
    (steer : s.steer = t.steer) (ref : s.ref = t.ref) (outs : s.outs = t.outs) (code : s.code = t.code)
    (capture : s.capture = t.capture) (cond : s.cond = t.cond) (port : s.port = t.port) : s = t := by
  cases s
  cases t
  simp only [State.mk.injEq]
  exact ⟨pending, idleCount, pins, clock, monitor, ports, slots, published, round, steer, ref, outs, code, capture, cond, port⟩

/-- A tick in progress ends and TX_LOST counts it (R34). -/
theorem LinkPort.cutShort_spec (p : LinkPort) :
    p.cutShort = { p with tx := none, counters := p.cutShort.counters } ∧
      (p.tx = none → p.cutShort.counters = p.counters) ∧ (p.tx ≠ none → Counted p.counters p.cutShort.counters 1) := by
  cases h : p.tx with
  | none =>
    have e : p.cutShort = p := by unfold LinkPort.cutShort; rw [h]
    rw [e]
    exact ⟨by rw [← h], fun _ => rfl, fun hn => absurd rfl hn⟩
  | some x =>
    have e : p.cutShort = { p with tx := none }.bump .txLost := by unfold LinkPort.cutShort; rw [h]
    rw [e]
    exact ⟨rfl, nofun, fun _ j => LinkPort.bump_get { p with tx := none } .txLost j.val j.isLt⟩

/-- Every channel is cut low (R142). -/
theorem onFault_channels (v : Vector Channel 4) : vmap Channel.onFault v = Vector.replicate 4
    { phase := .muted, high := false, pulseEnd := none, edge := none, tail := none, dark := true } := by
  apply table_ext
  intro i
  simp [Channel.onFault]

/-- With every channel muted, low and dark, every line is low (R131, R142). -/
theorem State.outLevel_of_onFault {t : State} (h : ∀ k : Fin 4, t.outs.channels[k] =
      { phase := .muted, high := false, pulseEnd := none, edge := none, tail := none, dark := true }) (k : Fin 4) :
    t.outLevel k = false := by
  unfold State.outLevel
  rw [h k]
  cases (t.outSetting k).mode <;> simp [State.codeLevel]

/-- Settles O13: the failing gate begins the next gate and enters FAULT, field by field. -/
theorem failingGateEntersFault : Obligations.FailingGateEntersFault := by
  intro e s u hh hd hr hfail
  have hp : gatePasses u.monitor.gateCount = false := by
    rw [← Bool.not_eq_true, gatePasses_iff]; exact hfail
  have htake : u.takeGate = (u.setMonitor (u.monitor.nextGate 0)).enterFault := by
    rw [u.takeGate_of_running hr]
    simp [hp, passesAfter]
  refine ⟨u.takeGate, s.exec_gateEnd e hh hd, ?_, ?_, ?_, ?_⟩ <;> rw [htake]
  · refine State.eq_of_fields (by simp) (by simp) (by simp) (by simp [Clock.onFault])
      (by rw [State.enterFault_monitor, State.setMonitor_monitor, Monitor.nextGate_eq])
      rfl (by simp) (by simp) (by simp) ?_ (by simp [RefUnit.onFault]) ?_ (by simp) (by simp) (by simp) (by simp)
    · simp [State.setRefUnit_eq, Steering.onFault, RefUnit.onFault]
    · simp [OutputUnit.onFault, onFault_channels, PairState.reset]
  · intro p
    simp only [State.enterFault_ports, Pair.get_map, State.setMonitor_ports]
    exact LinkPort.cutShort_spec _
  · intro k
    refine State.outLevel_of_onFault (fun k => ?_) k
    simp [OutputUnit.onFault, Channel.onFault]
  · have : (u.setMonitor (u.monitor.nextGate 0)).enterFault.held = false := by simpa [State.held] using hh
    simp [State.alert, this]

end Sys2Proof.Machine
end

section
/-! SUPPORT. START, and the Node Clock and the arm states that it begins with. -/

namespace Sys2Proof.Machine

variable {s u t : State}

/-! ## The first instants (R15, R31, R70, R71) -/

theorem Timestamp.zero_plus (q : Int) : Timestamp.zero.plus q = Timestamp.ofInt q := by
  simp [Timestamp.plus, Timestamp.zero]

theorem Timestamp.zero_secondStart : Timestamp.zero.secondStart = Timestamp.zero := by decide

theorem nextTop_zero : nextTop Timestamp.zero = Timestamp.ofInt 4000000000 := by
  rw [nextTop, Timestamp.zero_secondStart, Timestamp.zero_plus]
  rfl

theorem nextHalf_zero : nextHalf Timestamp.zero = Timestamp.ofInt 2000000000 := by
  rw [nextHalf, if_pos (by decide), Timestamp.zero_secondStart, Timestamp.zero_plus]

theorem nextClose_zero (c : ConfigRecord) : nextClose c Timestamp.zero = Timestamp.ofInt c.closeQns := by
  have pos : 0 < c.closeQns := Nat.mul_pos (Nat.two_pow_pos _) (by decide)
  exact if_pos pos

theorem nextTransmit_zero (c : ConfigRecord) (id : Fin 16) :
    nextTransmit c id Timestamp.zero = Timestamp.ofInt (id.val * 128000 : Nat) :=
  if_pos (Nat.zero_le _)

/-! ## START (R174) -/

/-- A group begins armed exactly while all its members are inactive (R158). -/
theorem groupInactive_iff (c : ConfigRecord) (g : GroupId) (levels : Fin 8 → Bool) :
    groupInactive c g levels = true ↔ ∀ j : Fin 8, c.inputs[j].group = some g →
      (c.inputs[j].edge = .rise → levels j = false) ∧ (c.inputs[j].edge = .fall → levels j = true) := by
  have inactive (x : EdgeSetting) (l : Bool) :
      x.inactive l = true ↔ (x = .rise → l = false) ∧ (x = .fall → l = true) := by
    cases x <;> simp [EdgeSetting.inactive]
  simp [groupInactive, List.all_eq_true, inactive, ← imp_iff_not_or]

theorem armAtStart_spec (c : ConfigRecord) (g : GroupId) (levels : Fin 8 → Bool) :
    let inactive := ∀ j : Fin 8, c.inputs[j].group = some g →
      (c.inputs[j].edge = .rise → levels j = false) ∧ (c.inputs[j].edge = .fall → levels j = true)
    (inactive → armAtStart (groupInactive c g levels) = .armed) ∧
      (¬inactive → armAtStart (groupInactive c g levels) = .disarmed) := by
  intro inactive
  refine ⟨fun h => ?_, fun h => ?_⟩
  · rw [(groupInactive_iff c g levels).2 h]
    rfl
  · rw [Bool.eq_false_iff.2 fun e => h ((groupInactive_iff c g levels).1 e)]
    rfl

/-- The checks of START in their order. -/
theorem State.judgeStart_of_state (h : u.steer.nodeState ≠ .config ∨ u.port.record = none ∨ u.port.strapValid ≠ .valid) :
    u.judgeStart = .refuseState := by
  unfold State.judgeStart
  split
  · rfl
  · next hc =>
    split
    · rfl
    · next c hr =>
      rw [if_pos]
      exact (h.resolve_left hc).resolve_left (by simp [hr])

theorem State.judgeStart_of_ready {c : ConfigRecord} (hc : u.steer.nodeState = .config) (hr : u.port.record = some c)
    (hv : u.port.strapValid = .valid) : u.judgeStart =
      if c.nodes < 3 * c.tolerance + 1 ∨ c.nodes ≤ u.port.strapId.toNat then .refuseArg else .accept := by
  simp [State.judgeStart, hc, hr, hv]

/-- Settles O47: the checks in their order, then the fields of the state that an accepted START leaves. -/
theorem startBeginsListen : Obligations.StartBeginsListen := by
  intro e s u refused hh
  have start : exec (.start e) s = .next u.startNode := by
    have : u.held = false := hh
    simp [exec, execStart, u, this]
  refine ⟨fun h => ?_, fun c hc hr hv => ⟨fun h => ?_, fun hn hid => ?_⟩⟩
  · rw [start, State.startNode, State.judgeStart_of_state h]
    rfl
  · rw [start, State.startNode, State.judgeStart_of_ready hc hr hv, if_pos h]
    rfl
  · have config : u.config = c := by simp [State.config, hr]
    have accept : u.startNode = u.begin.respond 1 .accept [] := by
      rw [State.startNode, State.judgeStart_of_ready hc hr hv, if_neg (by omega)]
    refine ⟨u.startNode, start, ?_⟩
    rw [accept]
    refine ⟨State.eq_of_fields (by simp [State.respond]) (by simp [State.respond]) (by simp [State.respond]) rfl
        (by simp [State.respond]) rfl (by simp [State.respond]) (by simp [State.respond]) (by simp [State.respond]) rfl rfl rfl
        rfl rfl (by simp [State.respond]) rfl, ?clock, by simp [State.respond], by simp [State.respond], fun p => ?_,
      by simp [State.respond, CodeComposer.reset], ?outs, fun k => ?_, ?capture, fun i => ?_, ?arms, ?port⟩
    case clock => simp [State.respond, State.startClock, State.namedFrom, nextTop_zero, nextHalf_zero, nextClose_zero,
        nextTransmit_zero, config, State.ownId, Clock.reset]
    case outs => simp [State.respond, OutputUnit.atStart, config]
    case capture => simp [State.respond, CaptureUnit.atStart]
    case arms =>
      have arm (g : GroupId) := armAtStart_spec c g fun j => u.pins.event[j]
      rw [← config] at arm ⊢
      simp only [State.respond, State.setPort, State.begin_capture, CaptureUnit.atStart, Option.some.injEq]
      exact ⟨(arm .g0).1, (arm .g0).2, (arm .g1).1, (arm .g1).2⟩
    case port => simp [State.respond, responseBytes, ResponseCode.byte]
    · simp [State.respond, LinkPort.atStart]
    · simp [State.respond, OutputUnit.atStart]
    · simp [State.respond, CaptureUnit.atStart]

end Sys2Proof.Machine
end

section
/-! SUPPORT. The data of the reads, in the byte forms of R168. -/

namespace Sys2Proof.Machine

variable {s u t : State}

/-! ## Numbers (R168) -/

/-- The byte at a place, most significant first. -/
theorem beBytes_get? (n : Nat) (z : Int) : ∀ k, k < n → (beBytes n z)[k]? = some (BitVec.ofInt 8 (z / 256 ^ (n - 1 - k))) := by
  induction n with
  | zero => exact fun k hk => absurd hk (Nat.not_lt_zero k)
  | succ n ih =>
    intro k hk
    cases k with
    | zero => simp [beBytes]
    | succ k =>
      rw [beBytes, List.getElem?_cons_succ, ih k (by omega)]
      congr 4
      omega

/-- A byte of a word. -/
theorem ofInt_div_eq_extract {n : Nat} (w : BitVec n) (k : Nat) :
    BitVec.ofInt 8 ((w.toNat : Int) / (256 ^ k : Nat)) = w.extractLsb' (8 * k) 8 := by
  apply BitVec.eq_of_toNat_eq
  rw [← Int.natCast_ediv, BitVec.ofInt_natCast, BitVec.toNat_ofNat, BitVec.extractLsb'_toNat, Nat.shiftRight_eq_div_pow,
    Nat.pow_mul]

theorem bytes2_eq (w : BitVec 16) : bytes2 w = beBytes 2 w.toNat := by
  simp only [bytes2, beBytes, ofInt_div_eq_extract]

theorem bytes4_eq (w : BitVec 32) : bytes4 w = beBytes 4 w.toNat := by
  simp only [bytes4, beBytes, ofInt_div_eq_extract]

theorem beBytes_one (n : Nat) : beBytes 1 n = [BitVec.ofNat 8 n] := by
  simp [beBytes]

theorem numBytes_byte (w : Byte) : numBytes 1 w.toNat = [w] := by
  rw [numBytes, beBytes_one, BitVec.ofNat_toNat, BitVec.setWidth_eq]

/-! ## Named values: the position is the place in the list -/

theorem NodeState.idxOf_eq (x : NodeState) :
    [NodeState.warmup, .config, .listen, .acquire, .track, .holdover, .anchored, .fault].idxOf x = x.position := by
  cases x <;> rfl

theorem ResetCause.idxOf_eq (x : ResetCause) : [ResetCause.powerOn, .pin, .restart].idxOf x = x.position := by cases x <;> rfl

theorem StrapValidity.idxOf_eq (x : StrapValidity) : [StrapValidity.notSampled, .valid, .invalid].idxOf x = x.position := by
  cases x <;> rfl

theorem RefState.idxOf_eq (x : RefState) : [RefState.absent, .qualifying, .valid, .distrusted].idxOf x = x.position := by
  cases x <;> rfl

theorem Source.idxOf_eq (x : Source) : [Source.ensemble, .anchors, .cold, .ref, .none].idxOf x = x.position := by
  cases x <;> rfl

theorem SetUsed.idxOf_eq (x : SetUsed) : [SetUsed.settled, .cold, .peer, .none].idxOf x = x.position := by cases x <;> rfl

theorem TargetOutcome.idxOf_eq (x : TargetOutcome) : [TargetOutcome.accepted, .split].idxOf x = x.position := by cases x <;> rfl

theorem SenderState.idxOf_eq (x : SenderState) :
    [SenderState.listen, .acquire, .track, .holdover, .anchored].idxOf x = x.position := by
  cases x <;> rfl

theorem Attribution.idxOf_eq (x : Attribution) : [Attribution.named, .nextClose].idxOf x = x.position := by cases x <;> rfl

theorem DelayOutcome.idxOf_eq (x : DelayOutcome) :
    [DelayOutcome.added, .clamped, .noEcho, .stepped, .missing, .invalidated, .overMax].idxOf x = x.position := by
  cases x <;> rfl

theorem Liveness.idxOf_eq (x : Liveness) : [Liveness.vacant, .heard, .active, .silent].idxOf x = x.position := by
  cases x <;> rfl

theorem PortId.idxOf_eq (x : PortId) : [PortId.a, .b].idxOf x = portPosition x := by cases x <;> rfl

theorem ofNat_linkPosition (up : Bool) : BitVec.ofNat 8 (linkPosition up) = if up then 0#8 else 1#8 := by cases up <;> rfl

/-! ## Optional fields, collections and the published summary -/

theorem optional_congr {α : Type} {f g : α → List Byte} (h : ∀ x, f x = g x) (width : Nat) (o : Option α) :
    optional width f o = optional width g o := by rw [funext h]

theorem items_congr {α : Type} {f g : α → List Byte} (h : ∀ x, f x = g x) (l : List α) : items f l = items g l := by
  rw [funext h]

theorem State.readSummary_eq (s : State) : s.readSummary = { s.round.published with
    stateAtClose := if s.round.published.round = none then s.steer.nodeState else s.round.published.stateAtClose
    stateAfter := if s.round.published.round = none then s.steer.nodeState else s.round.published.stateAfter } := by
  cases h : s.round.published.round with
  | none => simp only [State.readSummary, h, if_true]
  | some r =>
    simp only [State.readSummary, h, reduceCtorEq, if_false]
    rw [← h]

/-! ## The reads -/

/-- Settles O43: each part of the data is rewritten into the form of R168, from the parts of a field outward. -/
theorem readsAnswer : Obligations.ReadsAnswer := by
  refine ⟨fun n z => ⟨beBytes_length n z, beBytes_get? n z⟩, ?_⟩
  intro e s u reply yes name opt list stamp states time link status ids range m live round sender utc window copy prev lane
    delay peer hh
  have hu : (s.elapse e).held = false := hh
  have hdata (sent : Nat) (code : ResponseCode) (data : List Byte) :
      u.respond sent code data = u.setPort (reply sent code.byte data) := rfl
  have htime : u.timeData = time := by
    simp only [State.timeData, time, name, states, NodeState.idxOf_eq, numBytes, nameByte, beBytes_one, BitVec.ofNat_toNat,
      BitVec.setWidth_eq]
    rfl
  have hstatus : u.statusData = status := by
    simp only [State.statusData, LinkPort.data, ConditionBlock.data, CaptureUnit.data, status, link, name, states,
      NodeState.idxOf_eq, ResetCause.idxOf_eq, StrapValidity.idxOf_eq, RefState.idxOf_eq, numBytes, nameByte, beBytes_one,
      bytes2_eq, ofNat_linkPosition, BitVec.ofNat_toNat, List.append_assoc]
    rfl
  have hids (l : List (Fin 16)) : idsData l = ids l := items_congr (fun i : Fin 16 => beBytes_one i.val) l
  have hround : u.roundData = round := by
    have hlive (st : NodeState) : live st = nameByte (if m.round = none then u.steer.nodeState else st).position := by
      simp only [live, name, states, NodeState.idxOf_eq, nameByte]
    have htarget (o : Option (Int × TargetOutcome)) : optional 1 (fun x => nameByte x.2.position) o =
        opt 1 o fun x => name [TargetOutcome.accepted, .split] x.2 :=
      optional_congr (fun x => by simp only [name, TargetOutcome.idxOf_eq, nameByte]) 1 o
    have hanchored (o : Option AnchoredSubset) : optional 20 AnchoredSubset.data o = opt 20 o fun a =>
        beBytes 1 a.bestClass.toNat ++ beBytes 1 a.size ++ beBytes 1 a.fa ++ ids a.trimmed ++ range a.kept :=
      optional_congr (fun a => by simp only [AnchoredSubset.data, hids]; rfl) 20 o
    have haction (a : Action) (rest : List Byte) : nameByte a.position ++ (optional 3 (numBytes 3) a.slewAmount ++
        (optional 8 quantity a.stepAmount ++ rest)) = (match a with
        | .slew a => 0x00#8 :: opt 3 (some a) (beBytes 3) ++ opt 8 Option.none (beBytes 8)
        | .step c => 0x01#8 :: opt 3 Option.none (beBytes 3) ++ opt 8 (some c) (beBytes 8)
        | .hold => 0x02#8 :: opt 3 Option.none (beBytes 3) ++ opt 8 Option.none (beBytes 8)) ++ rest := by
      cases a <;> rfl
    simp only [State.roundData, State.readSummary_eq, Summary.dataHead, Summary.dataTail, List.append_assoc, haction, htarget,
      hids, round, hlive, optional_congr (fun r : BitVec 32 => bytes4_eq r), name, Source.idxOf_eq, SetUsed.idxOf_eq,
      numBytes_byte, hanchored]
    rfl
  have hsender (p : PeerStatus) : p.dataHead = sender p := by
    simp only [PeerStatus.dataHead, sender, name, SenderState.idxOf_eq]
    rfl
  have hutc (p : PeerStatus) : p.dataTail = utc p := by
    simp only [PeerStatus.dataTail, utc, bytes2_eq]
    rfl
  have hwindow : items Sample.data = window := funext (items_congr fun x => by
    simp only [Sample.data, bytes4_eq]
    rfl)
  have hcopy : optional 61 Copy.data = copy := funext (optional_congr (fun c => by
    simp only [Copy.data, hsender, hutc, bytes4_eq, name, Attribution.idxOf_eq, DelayOutcome.idxOf_eq, numBytes_byte,
      List.append_assoc]
    rfl) 61)
  have hprev : optional 15 PrevStamp.data = prev := funext (optional_congr (fun x => by
    simp only [PrevStamp.data, bytes4_eq, numBytes_byte]
    rfl) 15)
  have hlane : optional 18 Lane.data = lane := funext (optional_congr (fun l => by
    simp only [Lane.data, hsender, hutc, name, PortId.idxOf_eq, List.append_assoc]
    rfl) 18)
  have hpeer (i : Fin 16) : u.peerData i = peer i := by
    simp only [State.peerData, Slot.data, Verdict.data, hwindow, hcopy, hprev, hlane,
      optional_congr (fun r : BitVec 32 => bytes4_eq r), peer, name, Liveness.idxOf_eq, List.append_assoc]
    rfl
  refine ⟨?_, ?_, ?_, fun id => ?_, ?_⟩
  · simp only [exec, execReadTime, u, hu, hdata, htime]
    rfl
  · simp only [exec, execReadStatus, u, hu, hdata, hstatus]
    rfl
  · simp only [exec, execReadRound, u, hu, hdata, hround]
    rfl
  · simp only [exec, execReadPeer, State.readPeerSlot, u, hu, hdata, hpeer]
    by_cases h : id.toNat < 16 <;> simp only [h, dite_true, dite_false] <;> rfl
  · simp only [exec, execRestart, u, hu]
    rfl

end Sys2Proof.Machine
end

section
/-! SUPPORT. The parts of ROUND_COMPLETION that stand in its statement: the flags that each report sets, the slots under a STEP and
under the completion work, and the slew that an order begins (R10, R56, R60, R165). -/

namespace Sys2Proof.Machine

variable {s t : State}

/-! ## Reports (R165) -/

/-- A report sets its own flag and no other. -/
theorem State.flag_report (c : Condition) (i : Fin 16) : (s.report c).flag i = true ↔ s.flag i = true ∨ i = c.bit := by
  simp only [State.flag, State.report_cond, BitVec.getLsbD_or, BitVec.getLsbD_shiftLeft, Bool.or_eq_true, Bool.and_eq_true]
  refine or_congr Iff.rfl ?_
  rw [Fin.ext_iff]
  have := i.isLt
  simp [BitVec.getLsbD_one]
  omega

theorem State.flag_reportIf (b : Bool) (c : Condition) (i : Fin 16) :
    (s.reportIf b c).flag i = true ↔ s.flag i = true ∨ (i = c.bit ∧ b = true) := by
  cases b
  · simp
  · simpa using s.flag_report c i

@[simp] theorem State.reportIf_fault (b : Bool) (c : Condition) : (s.reportIf b c).cond.fault = s.cond.fault := by
  cases b <;> rfl

/-! ## The completion work on a slot (R60 to R65) -/

/-- The completion work leaves the copies received since the close and the counters (R66, R67). -/
theorem Slot.complete_keeps (x : Slot) (cfg : ConfigRecord) (c : Option Int) (mark : Option Bool) :
    (x.complete cfg c mark).current = x.current ∧ (x.complete cfg c mark).counters = x.counters := by
  obtain ⟨b, n, a, hj⟩ := Slot.judge_eq { x with lastLane := x.lane }.countMiss cfg c mark
  obtain ⟨v, hv⟩ := Slot.writeVerdict_eq ({ x with lastLane := x.lane }.countMiss.judge cfg c mark) cfg c mark
  simp only [Slot.complete, Slot.ageSamples]
  rw [hv, hj]
  rcases Slot.countMiss_cases { x with lastLane := x.lane } with ⟨m, l, h⟩ | ⟨m, h⟩ <;> rw [h] <;> exact ⟨rfl, rfl⟩

theorem completeSlots_get (cfg : ConfigRecord) (r : PeerReport) (v : Vector Slot 16) (i : Fin 16) :
    (completeSlots cfg r v)[i] = v[i].complete cfg r.correction (r.mark i) := vmapIdx_get _ v i.val i.isLt

/-! ## A slot under a STEP (R56) -/

/-- A step moves the copies of a slot and its OUT_OF_RANGE counter, nothing else (R56). -/
theorem Slot.onStep_eq (x : Slot) (cfg : ConfigRecord) (st : NodeState) (c : Int) (now : Timestamp) :
    x.onStep cfg st c now = { x with
      current := x.current.map fun o => o.map (Copy.onStep · cfg st c now)
      counters := (({ x with current := x.current.map fun o => o.map (Copy.onStep · cfg st c now) } : Slot).bumpIf
        (lostByStep x.current.a st c) .outOfRange |>.bumpIf (lostByStep x.current.b st c) .outOfRange).counters } := by
  unfold Slot.onStep
  cases lostByStep x.current.a st c <;> cases lostByStep x.current.b st c <;> rfl

theorem Slot.bumpIf_counters (x : Slot) (b : Bool) (c : SlotCounter) (k : Fin 10) :
    (x.bumpIf b c).counters[k] = if b = true ∧ k = c.index then min 65535 (x.counters[k] + 1) else x.counters[k] := by
  cases b
  · simp [Slot.bumpIf]
  · by_cases h : k = c.index
    · subst h
      simp [Slot.bumpIf, Slot.bump, vmodify, satSucc]
    · have : c.index.val ≠ k.val := fun e => h (Fin.ext e.symm)
      simp [Slot.bumpIf, Slot.bump, vmodify, h, this]

/-- The offset bound holds outside LISTEN (R55). -/
theorem outOfBound_iff (st : NodeState) (v : Int) : outOfBound st v = true ↔ st ≠ .listen ∧ 4194304 < |v| := by
  simp [outOfBound]

/-- The estimate of a held copy under a step falls by it, and is lost beyond the offset bound. -/
theorem Copy.adjust_cases (a : Copy) (st : NodeState) (c : Int) :
    (a.estimate = none ∧ a.adjust st c = a) ∨ ∃ v, a.estimate = some v ∧
      (((st ≠ .listen ∧ 4194304 < |v - c|) ∧ a.adjust st c = { a with estimate := none, bounded := true }) ∨
        (¬(st ≠ .listen ∧ 4194304 < |v - c|) ∧ a.adjust st c = { a with estimate := some (int64 (v - c)) })) := by
  unfold Copy.adjust
  split
  · next h => exact .inl ⟨h, rfl⟩
  · next v h =>
    refine .inr ⟨v, h, ?_⟩
    rw [← outOfBound_iff]
    split
    · next hb => exact .inl ⟨hb, rfl⟩
    · next hb => exact .inr ⟨hb, rfl⟩

/-- A copy attributed to the next close is attributed afresh by a step (R56). -/
theorem Copy.onStep_eq (a : Copy) (cfg : ConfigRecord) (st : NodeState) (c : Int) (now : Timestamp) :
    a.onStep cfg st c now = { a.adjust st c with
      attributed := if a.kind = .nextClose then roundOfClose cfg (nextClose cfg now) else (a.adjust st c).attributed } := by
  unfold Copy.onStep
  cases a.kind <;> rfl

/-- A held copy under a STEP. -/
theorem Copy.onStep_spec (a : Copy) (cfg : ConfigRecord) (st : NodeState) (c : Int) (now : Timestamp) :
    let b := a.onStep cfg st c now
    b = { a with attributed := b.attributed, estimate := b.estimate, bounded := b.bounded } ∧
    b.attributed = (if a.kind = .nextClose then roundOfClose cfg (nextClose cfg now) else a.attributed) ∧
    (a.estimate = none → b.estimate = none ∧ b.bounded = a.bounded) ∧
    ∀ v, a.estimate = some v →
      (st ≠ .listen → 4194304 < |v - c| → b.estimate = none ∧ b.bounded = true) ∧
      (st = .listen ∨ |v - c| ≤ 4194304 → b.bounded = a.bounded ∧ ∃ w, b.estimate = some w ∧
        (-9223372036854775808 ≤ v - c → v - c ≤ 9223372036854775807 → w = v - c)) := by
  rw [a.onStep_eq]
  rcases a.adjust_cases st c with ⟨he, e⟩ | ⟨v, he, ⟨hb, e⟩ | ⟨hb, e⟩⟩ <;> rw [e]
  · exact ⟨rfl, rfl, fun _ => ⟨he, rfl⟩, fun v hv => absurd (he.symm.trans hv) nofun⟩
  · refine ⟨rfl, rfl, fun h => absurd (h.symm.trans he) nofun, fun w hw => ?_⟩
    obtain rfl : v = w := Option.some.inj (he.symm.trans hw)
    refine ⟨fun _ _ => ⟨rfl, rfl⟩, fun h => ?_⟩
    rcases h with h | h
    · exact absurd h hb.1
    · exact absurd hb.2 (not_lt.2 h)
  · refine ⟨rfl, rfl, fun h => absurd (h.symm.trans he) nofun, fun w hw => ?_⟩
    obtain rfl : v = w := Option.some.inj (he.symm.trans hw)
    exact ⟨fun h1 h2 => absurd ⟨h1, h2⟩ hb, fun _ => ⟨rfl, _, rfl, int64_of_mem⟩⟩

theorem lostByStep_eq (o : Option Copy) (st : NodeState) (c : Int) : lostByStep o st c =
    o.any fun a => a.estimate.any fun v => decide (st ≠ .listen ∧ 4194304 < |v - c|) := by
  have copy (a : Copy) : a.lostByStep st c = a.estimate.any fun v => decide (st ≠ .listen ∧ 4194304 < |v - c|) := by
    unfold Copy.lostByStep
    cases a.estimate with
    | none => rfl
    | some v =>
      rw [Bool.eq_iff_iff]
      simpa using outOfBound_iff st (v - c)
  simp only [lostByStep, copy]

/-- OUT_OF_RANGE counted for each of two losses (R66). -/
theorem Slot.bumpIf_twice_counters (x : Slot) (a b : Bool) :
    let y := (x.bumpIf a .outOfRange).bumpIf b .outOfRange
    let n := a.toNat + b.toNat
    (n = 0 → y.counters = x.counters) ∧
    (0 < n → ∀ k : Fin 10, y.counters[k] = if k = 9 then min 65535 (x.counters[k] + n) else x.counters[k]) := by
  have index : SlotCounter.outOfRange.index = 9 := rfl
  cases a <;> cases b
  case false.false => exact ⟨fun _ => rfl, nofun⟩
  case false.true | true.false | true.true =>
    refine ⟨nofun, fun _ k => ?_⟩
    simp only [Slot.bumpIf_counters, index, true_and, Bool.toNat_true, Bool.toNat_false]
    by_cases hk : k = 9 <;> simp [hk] <;> omega

/-- A slot under a STEP: its copies and its OUT_OF_RANGE counter, as R56 says. -/
theorem Slot.onStep_spec (x : Slot) (cfg : ConfigRecord) (st : NodeState) (c : Int) (now : Timestamp) :
    CopiesStepped cfg st c now x (x.onStep cfg st c now) := by
  have copies (p : PortId) : (x.onStep cfg st c now).current.get p = (x.current.get p).map (Copy.onStep · cfg st c now) := by
    rw [x.onStep_eq]
    exact Pair.get_map _ _ p
  refine ⟨fun p h => by rw [copies, h]; rfl, fun p a h => ⟨a.onStep cfg st c now, by rw [copies, h]; rfl, a.onStep_spec ..⟩, ?_⟩
  intro lost
  have count : lost = (lostByStep x.current.a st c).toNat + (lostByStep x.current.b st c).toNat := by
    simp only [lost, ← lostByStep_eq, Pair.toList, List.filter_cons, List.filter_nil]
    cases lostByStep x.current.a st c <;> cases lostByStep x.current.b st c <;> rfl
  rw [count]
  exact Slot.bumpIf_twice_counters { x with current := x.current.map fun o => o.map (Copy.onStep · cfg st c now) } _ _

end Sys2Proof.Machine
end

section
/-! SUPPORT. The decision of a completion, the reports it makes, and the summary it publishes (R92, R98, R121). -/

namespace Sys2Proof.Machine

variable (s : State) (f : Flight)

/-! ## The judged round (R121, R122) -/

/-- A judged round moves the state of the reference and its two counts. -/
theorem RefUnit.judgeRound_eq (r : RefUnit) (isInside selected : Bool) :
    ∃ st o i, r.judgeRound isInside selected = { r with state := st, outside := o, inside := i } := by
  unfold RefUnit.judgeRound
  split
  · exact ⟨_, _, _, rfl⟩
  · exact ⟨_, _, _, rfl⟩
  · split
    · exact ⟨_, _, _, rfl⟩
    · split <;> exact ⟨_, _, _, rfl⟩
  · split
    · exact ⟨_, _, _, rfl⟩
    · split <;> exact ⟨_, _, _, rfl⟩

/-- What the judgement of a round moves, and the one flag it sets. -/
theorem State.judgeReference_spec (range : PeerRange) (offset : Option Int) (selected : Bool) :
    let t := s.judgeReference range offset selected
    (∃ st o i, t.ref = { s.ref with state := st, outside := o, inside := i }) ∧
    (∃ b, t.steer = { s.steer with hostTimescale := b }) ∧
    t.cond.fault = s.cond.fault ∧
    ∀ i : Fin 16, t.flag i = true ↔ s.flag i = true ∨ (i = 3 ∧ s.ref.state = .valid ∧ t.ref.state = .distrusted) := by
  unfold State.judgeReference
  split
  · next g r =>
    simp only [State.setRefUnit_eq]
    refine ⟨by simpa using RefUnit.judgeRound_eq _ _ _, ⟨_, by simp; rfl⟩, by rw [State.reportIf_fault]; rfl, fun i => ?_⟩
    rw [State.flag_reportIf]
    simp [State.flag, Condition.bit]
  · refine ⟨⟨_, _, _, rfl⟩, ⟨_, rfl⟩, rfl, fun i => ⟨.inl, ?_⟩⟩
    rintro (h | ⟨-, h1, h2⟩)
    · exact h
    · exact absurd (h1.symm.trans h2) nofun

theorem State.judged_ref_eq : ∃ st o i, (s.judged f).ref = { s.ref with state := st, outside := o, inside := i } :=
  (State.judgeReference_spec _ _ _ _).1

theorem State.judged_steer_eq : ∃ b, (s.judged f).steer = { s.steer with hostTimescale := b } :=
  (State.judgeReference_spec _ _ _ _).2.1

theorem State.judged_fault : (s.judged f).cond.fault = s.cond.fault := (State.judgeReference_spec _ _ _ _).2.2.1

theorem State.judged_flag (i : Fin 16) : (s.judged f).flag i = true ↔
    s.flag i = true ∨ (i = 3 ∧ s.ref.state = .valid ∧ (s.judged f).ref.state = .distrusted) :=
  (State.judgeReference_spec _ _ _ _).2.2.2 i

/-! ## The decision's record (R98) -/

/-- What the record of a completion's decision keeps, its class, and where its UTC values must be the record's own (R111, R112,
R126). -/
theorem State.decided_steer :
    let y := (s.decided f).steer
    y.leapGuard = s.steer.leapGuard ∧
    y.accuracyClass = (if y.nodeState.settled then min 15 (bitLength y.estimate) else 15) ∧
    (s.spellChanges f = false ↔ y.nodeState = s.steer.nodeState ∧ y.refSelected = s.steer.refSelected) ∧
    (s.spellChanges f = false → y.atLimitCount = s.steer.atLimitCount) ∧
    (s.steer.epochKnown = true ∨ f.offer s.config = none → y.hostTimescale = true ∨ s.steer.leapGuard ≠ none →
      y.utc = s.steer.utc) := by
  obtain ⟨b, hb⟩ := s.judged_steer_eq f
  obtain ⟨w, hw, ⟨hguard, hhost, hutc, -, hcount⟩, -⟩ := (s.judged f).steer.decideRound_shape s.config
    (f.result s.config s.ownId s.round.quiet) (s.judged f).ref.state f.refOffset
  obtain ⟨e, h, v, hf, hv⟩ := Steering.finish_eq (s.judged f).steer s.config (f.result s.config s.ownId s.round.quiet)
    ((s.judged f).steer.decideRound s.config (s.judged f).ref.state
      (f.result s.config s.ownId s.round.quiet) f.refOffset).steer
  have hy : (s.decided f).steer = _ := hf
  intro y
  have spell : s.spellChanges f = false ↔ y.nodeState = s.steer.nodeState ∧ y.refSelected = s.steer.refSelected := by
    simp only [y, hy, State.spellChanges, changesSpell, Bool.or_eq_false_iff, decide_eq_false_iff_not, not_not, hb]
    exact and_congr eq_comm eq_comm
  simp only [hb] at hguard hhost hutc hcount hw
  refine ⟨?_, ?_, spell, fun hs => ?_, fun h1 h2 => ?_⟩
  · simp only [y, hy, hb]
    exact hguard
  · simp only [y, hy]
    rfl
  · obtain ⟨hn, hr⟩ := spell.1 hs
    simp only [y, hy, hb] at hn hr ⊢
    exact hcount hn hr
  · simp only [y, hy, hb] at h2 ⊢
    rw [hb] at hv
    refine (hv ?_).trans (hutc.trans (hw h1))
    rw [hguard]
    exact h2

/-! ## The round's result in its reports (R79, R84) -/

theorem sourceOf_eq_none (byRef : Bool) (used : SetUsed) (accepted : Bool) :
    sourceOf byRef used accepted = .none ↔ byRef = false ∧ (used = .peer ∨ used = .none) := by
  cases byRef
  · cases used
    case settled => cases accepted <;> simp [sourceOf]
    case cold | peer | none => simp [sourceOf]
  · simp [sourceOf]

/-- Only a round that steers by REF uses the peer set (R85). -/
theorem Flight.used_ne_peer (c : ConfigRecord) (id : Fin 16) (quiet : Nat) (h : f.byRef = false) :
    (f.used c id quiet).1 ≠ .peer := by
  unfold Flight.used
  rw [h]
  simp only [Bool.false_eq_true, if_false]
  split
  · simp
  · split <;> simp

/-- A round without a source is starved (R79). -/
theorem Flight.source_none_iff (c : ConfigRecord) (id : Fin 16) (quiet : Nat) :
    (f.result c id quiet).source = .none ↔ (f.result c id quiet).starved = true := by
  refine (sourceOf_eq_none _ _ _).trans ?_
  rw [RoundResult.starved, Bool.and_eq_true, Bool.not_eq_true', decide_eq_true_eq]
  refine ⟨fun ⟨hb, hu⟩ => ⟨hu.resolve_left (f.used_ne_peer c id quiet hb), hb⟩, fun ⟨hu, hb⟩ => ⟨hb, .inr hu⟩⟩

theorem Flight.summary_target_split (c : ConfigRecord) (id : Fin 16) (quiet : Nat) (before : Summary) :
    (f.result c id quiet).split = true ↔ ∃ z, (f.summary c id quiet before).target = some (z, .split) := by
  simp only [RoundResult.split, Flight.summary]
  cases (f.result c id quiet).anchor <;> cases (f.result c id quiet).accepted <;> simp

end Sys2Proof.Machine
end

section
/-! SUPPORT. ROUND_COMPLETION: what the issue of each decision does, and the parts of the state after it (R8 to R13, R72, R102). -/

namespace Sys2Proof.Machine

variable (s : State) (f : Flight)

/-! ## The at-limit count (R101) -/

theorem atLimit_iff (rate : Int) : atLimit rate = true ↔ |rate| = 100000000 := by
  simp only [atLimit, Bool.or_eq_true, decide_eq_true_eq]
  exact (abs_eq (by decide)).symm

theorem countAtLimit_reports (n : Nat) (changed limit : Bool) :
    (countAtLimit n changed limit).2 = true ↔ changed = false ∧ limit = true ∧ 7 ≤ n := by
  unfold countAtLimit satSucc
  cases changed <;> cases limit
  case false.true =>
    simp only [Bool.false_eq_true, Bool.not_true, if_false, true_and]
    split <;> simp <;> omega
  case false.false | true.false | true.true => simp

/-! ## The issue of a decision, case by case (R9) -/

theorem State.slewed_steer (r a : Int) : (s.slewed r a).steer = s.steer := by
  obtain ⟨t, w, k, e⟩ := s.slewed_eq r a
  rw [e]

theorem State.slewed_cond (r a : Int) : (s.slewed r a).cond = s.cond := by
  obtain ⟨t, w, k, e⟩ := s.slewed_eq r a
  rw [e]

/-- The state that a HOLD, a STEP or a SLEW of a completion's decision leaves. -/
theorem State.issued_spec (h : s.running = true) :
    let d := s.decided f
    let v := (s.judged f).recorded d.steer
    let c := (f.result s.config s.ownId s.round.quiet).correction.getD 0
    (d = d.steer.hold ∧ s.issued f = v) ∨
    (∃ a, d = d.steer.step a ∧ d.steer.nodeState = .acquire ∧ s.issued f = (v.setClock { s.clock with slew := none }).takeStep a) ∨
    ∃ g, d = d.steer.correct s.config g c ∧ s.issued f =
      let w := v.slewed (rateStepOf s.config g c) (clampTo s.config.slewLimit c)
      let n := countAtLimit d.steer.atLimitCount (s.spellChanges f) (atLimit w.clock.rate)
      ((w.setSteer { d.steer with atLimitCount := n.1 }).reportIf n.2 .oscRange).reportIf
        (decide ((s.config.slewLimit : Int) < |c|)) .clamped := by
  obtain ⟨y, hy, hrun, hd⟩ := s.decided_cases f h
  intro d v c
  subst hy
  rcases hd with hd | ⟨a, hd, ha⟩ | ⟨g, hd⟩
  · refine .inl ⟨hd, ?_⟩
    unfold State.issued
    rw [hd, State.issue_hold]
  · refine .inr (.inl ⟨a, hd, ha, ?_⟩)
    unfold State.issued
    rw [hd, State.issue_step _ _ _ hrun, s.judged_clock f]
  · refine .inr (.inr ⟨g, hd, ?_⟩)
    unfold State.issued
    rw [hd, State.issue_correct _ _ _ hrun, State.slewed_steer]
    rfl

/-! ## The flags of a completion (R79, R84, R99, R101, R62) -/

/-- The flags that the issue of the decision sets. -/
theorem State.issued_flag (h : s.running = true) (i : Fin 16) : (s.issued f).flag i = true ↔ (s.judged f).flag i = true ∨
    (i = 1 ∧ ∃ a c, (s.decided f).order.action = .slew a ∧
      (f.result s.config s.ownId s.round.quiet).correction = some c ∧ (s.config.slewLimit : Int) < |c|) ∨
    (i = 2 ∧ ∃ c, (s.decided f).order.action = .step c) ∨
    (i = 9 ∧ (s.decided f).order.rateStep ≠ none ∧ s.spellChanges f = false ∧ |(s.issued f).clock.rate| = 100000000 ∧
      7 ≤ (s.decided f).steer.atLimitCount) := by
  have kept (y : Steering) : ((s.judged f).recorded y).flag i = (s.judged f).flag i := rfl
  rcases s.issued_spec f h with ⟨hd, e⟩ | ⟨a, hd, -, e⟩ | ⟨g, hd, e⟩ <;> rw [hd, e]
  · rw [kept]
    simp [Steering.hold]
  · have : (((((s.judged f).recorded (s.decided f).steer).setClock { s.clock with slew := none }).takeStep a).flag i = true) ↔
        (s.judged f).flag i = true ∨ i = 2 := by
      rw [State.flag, State.takeStep_cond]
      exact State.flag_report .stepped i
    rw [this]
    simp [Steering.step]
  · have corrected (limit : Nat) (o : Option Int) : (limit : Int) < |o.getD 0| ↔ ∃ c, o = some c ∧ (limit : Int) < |c| := by
      cases o <;> simp
    have slewed (r a : Int) (y : Steering) : ((((s.judged f).recorded (s.decided f).steer).slewed r a).setSteer y).flag i =
        (s.judged f).flag i := by
      rw [State.flag, State.setSteer_cond, State.slewed_cond]
      rfl
    simp only [State.flag_reportIf, slewed, State.reportIf_clock, State.setSteer_clock, countAtLimit_reports, atLimit_iff,
      decide_eq_true_eq, corrected, Steering.correct, Condition.bit]
    simp [or_assoc, or_comm]

theorem newSuspect_iff (before after : Vector Slot 16) : newSuspect before after = true ↔
    ∃ j : Fin 16, before[j].suspect = false ∧ after[j].suspect = true := by
  simp [newSuspect, List.any_eq_true]

/-- The decision's issue moves no suspicion. -/
theorem State.issued_suspect (h : s.running = true) (j : Fin 16) : (s.issued f).slots[j].suspect = s.slots[j].suspect := by
  rcases s.issued_spec f h with ⟨-, e⟩ | ⟨a, -, -, e⟩ | ⟨g, -, e⟩ <;> rw [e]
  · simp
  · simp [Slot.onStep_eq]
  · obtain ⟨t, w, r, e'⟩ := ((s.judged f).recorded (s.decided f).steer).slewed_eq
      (rateStepOf s.config g ((f.result s.config s.ownId s.round.quiet).correction.getD 0))
      (clampTo s.config.slewLimit ((f.result s.config s.ownId s.round.quiet).correction.getD 0))
    rw [e']
    simp

theorem State.issued_fault (h : s.running = true) : (s.issued f).cond.fault = s.cond.fault := by
  rw [← s.judged_fault f]
  rcases s.issued_spec f h with ⟨-, e⟩ | ⟨a, -, -, e⟩ | ⟨g, -, e⟩ <;> rw [e]
  · rfl
  · rw [State.takeStep_cond]
    rfl
  · simp [State.slewed_cond]

/-! ## The state after a completion -/

theorem State.complete_fields : ∃ k, s.complete f = { s.issued f with
    slots := (s.tabled f).slots, published := (s.tabled f).published, cond := k
    round := { (s.issued f).round with working := some (s.summaryOf f), published := s.summaryOf f } } ∧
    k = (s.reported f).cond := by
  obtain ⟨k, hk, -⟩ := s.reported_reported f
  refine ⟨_, ?_, rfl⟩
  rw [s.complete_eq f, hk]
  rfl

/-- The flags after a completion. -/
theorem State.complete_flag (i : Fin 16) : (s.complete f).flag i = true ↔ (s.issued f).flag i = true ∨
    (i = 14 ∧ ∃ j : Fin 16, (s.issued f).slots[j].suspect = false ∧ (s.complete f).slots[j].suspect = true) ∨
    (i = 0 ∧ (s.summaryOf f).source = .none ∧ f.overtaken = false) ∨
    (i = 3 ∧ f.overtaken = false ∧ ∃ z, (s.summaryOf f).target = some (z, .split)) := by
  obtain ⟨k, e, hk⟩ := s.complete_fields f
  have slots : (s.complete f).slots = (s.tabled f).slots := by rw [e]
  have flags : (s.complete f).flag i = (s.reported f).flag i := by rw [e]; simp only [State.flag, hk]
  have source : (s.summaryOf f).source = (f.result s.config s.ownId s.round.quiet).source := rfl
  have target : (s.summaryOf f).target = (f.summary s.config s.ownId s.round.quiet s.round.published).target := rfl
  have overtaken : (f.result s.config s.ownId s.round.quiet).overtaken = f.overtaken := rfl
  have tabled : (s.tabled f).flag i = (s.issued f).flag i := rfl
  rw [flags, slots, source, target, f.source_none_iff, ← f.summary_target_split]
  simp only [State.reported, State.flag_reportIf, newSuspect_iff, Bool.and_eq_true, Bool.not_eq_true',
    overtaken, tabled, Condition.bit]
  simp [or_assoc, and_comm]

end Sys2Proof.Machine
end

section
/-! SUPPORT. ROUND_COMPLETION settled: the three orders, and the state that each leaves (R8 to R13). -/

namespace Sys2Proof.Machine

variable (s : State) (f : Flight)

/-! ## A SLEW (R8 to R11) -/

theorem rateAfter_eq (rate d : Int) : rateAfter rate d = max (-100000000) (min 100000000 (rate + d)) := by
  simp only [rateAfter, clampTo, Config.rateLimit]
  split
  · omega
  · split <;> omega

/-- The term of a slew spreads its amount over the round exactly: the round period divides 250,000 (R10). -/
theorem newSlew_spec (c : ConfigRecord) (a : Int) (t : Timestamp) :
    (a = 0 → newSlew c a t = none) ∧
    (a ≠ 0 → ∃ term, term * c.roundMs = 250000 * a ∧ newSlew c a t = some
      { amount := a, delivered := 0, residue := 0, term := term, finish := t.plus c.roundQns }) := by
  refine ⟨fun h => if_pos h, fun h => ⟨250000 * a / (c.roundMs : Int), Int.ediv_mul_cancel ?_, if_neg h⟩⟩
  have divides : (c.roundMs : Int) ∣ 250000 := by
    unfold ConfigRecord.roundMs
    have code := c.roundCode.isLt
    generalize c.roundCode.toNat = k at code
    interval_cases k <;> decide
  exact divides.mul_right a

/-- The reading once a slew in progress is settled (R11). -/
def Clock.settledReading (c : Clock) : Timestamp :=
  match c.slew with
  | none => c.reading
  | some w => c.reading.plus (w.amount - w.delivered)

/-- A SLEW settles the slew before it, applies the rate step and begins its own (R9); a settlement counts its remainder in the
correction total (R116). -/
theorem State.slewed_spec (d a : Int) :
    (s.slewed d a).clock = { s.clock with
      reading := s.clock.settledReading, rate := rateAfter s.clock.rate d
      slew := newSlew s.config a s.clock.settledReading } ∧
    (s.clock.slew = none → (s.slewed d a).ref = s.ref) ∧
    ∀ w, s.clock.slew = some w → (s.slewed d a).ref = s.ref.correct (w.amount - w.delivered) := by
  unfold State.slewed Clock.settledReading
  rcases s.settleSlew_cases with ⟨h, e⟩ | ⟨w, h, e⟩ <;> rw [e, h]
  · refine ⟨rfl, fun _ => rfl, nofun⟩
  · refine ⟨rfl, nofun, fun w' h' => ?_⟩
    cases h'
    rfl

/-- Of the reference a SLEW moves the correction total alone. -/
theorem State.slewed_ref (d a : Int) : ∃ k, (s.slewed d a).ref = { s.ref with correction := k } := by
  obtain ⟨-, absent, present⟩ := s.slewed_spec d a
  cases h : s.clock.slew with
  | none => exact ⟨_, absent h⟩
  | some w => exact ⟨_, (present w h).trans (RefUnit.correct_spec s.ref _).1⟩

/-! ## A STEP (R120, R152) -/

theorem wrapOffset_spec (x : Int) : ∃ k : Int, wrapOffset x = x + k * 4000000000 ∧ -2000000000 ≤ wrapOffset x ∧
    wrapOffset x < 2000000000 := by
  refine ⟨-((x + 2000000000) / 4000000000), ?_⟩
  unfold wrapOffset
  omega

/-- Only the copies received since the close and the counters tell what a step did to a slot. -/
theorem CopiesStepped.congr {cfg : ConfigRecord} {st : NodeState} {c : Int} {now : Timestamp} {x y z : Slot}
    (h : CopiesStepped cfg st c now x y) (current : z.current = y.current) (counters : z.counters = y.counters) :
    CopiesStepped cfg st c now x z := by
  unfold CopiesStepped
  rw [current, counters]
  exact h

/-- The Reference Unit under a STEP (R116, R120, R123). -/
theorem RefUnit.onStep_spec (r : RefUnit) (c : Int) :
    (r.onStep c).correction = (r.correct c).correction ∧
    (r.lastOffset = none → (r.onStep c).lastOffset = none) ∧
    (∀ o, r.lastOffset = some o → ∃ z k : Int, (r.onStep c).lastOffset = some z ∧ z = o - c + k * 4000000000 ∧
      -2000000000 ≤ z ∧ z < 2000000000) ∧
    (r.onStep c).pendingTime = r.pendingTime.map fun a => { a with expiry := a.expiry.plus c } := by
  unfold RefUnit.onStep
  refine ⟨rfl, fun h => by rw [h]; rfl, fun o h => ?_, rfl⟩
  obtain ⟨k, hk, low, high⟩ := wrapOffset_spec (o - c)
  exact ⟨wrapOffset (o - c), k, by rw [h]; rfl, hk, low, high⟩

/-- The Code Composer under a STEP (R152). -/
theorem State.takeStep_code (c : Int) : let r := s.clock.reading.plus c
    (s.takeStep c).code = { s.code with
      pendingFrame := if 2000000000 ≤ r.fraction
        then some ((s.takeStep c).composeFrame ((r.seconds + 1) % 1099511627776) s.code.referenceStep) else none
      current := s.code.current.filter fun f => f.second = BitVec.ofNat 40 r.seconds } := by
  obtain ⟨w, e, reading, code⟩ : ∃ w : State, s.takeStep c = w.codeOnStep ∧ w.clock.reading = s.clock.reading.plus c ∧
      w.code = s.code := ⟨_, rfl, by simp [State.outputsOnStep, State.jump], by simp [State.outputsOnStep, State.jump]⟩
  have composed : w.codeOnStep.code = { w.code with
      pendingFrame := if 2000000000 ≤ w.clock.reading.fraction
        then some (w.codeOnStep.composeFrame (secondAfter w.clock.reading) w.code.referenceStep) else none
      current := w.code.current.filter fun f => f.second = BitVec.ofNat 40 w.clock.reading.seconds } := rfl
  rw [e, composed, reading, code]
  simp [secondAfter]

/-! ## The frame of a completion (R72) -/

/-- What the issue of a completion's decision leaves. -/
theorem State.issued_frame (h : s.running = true) : s.issued f = { s with
    clock := (s.issued f).clock, ports := (s.issued f).ports, slots := (s.issued f).slots, steer := (s.issued f).steer
    ref := (s.issued f).ref, outs := (s.issued f).outs, code := (s.issued f).code, cond := (s.issued f).cond
    round := { s.round with flight := none } } := by
  rcases s.issued_spec f h with ⟨-, e⟩ | ⟨a, -, -, e⟩ | ⟨g, -, e⟩
  · rw [e]
    exact State.eq_of_fields (by simp) (by simp) (by simp) rfl (by simp) rfl rfl (by simp) (by simp) rfl rfl rfl rfl (by simp) rfl
      (by simp)
  · rw [e]
    exact State.eq_of_fields (by simp) (by simp) (by simp) rfl (by simp) rfl rfl (by simp)
      (by simp [RoundEngine.overtake]) rfl rfl rfl rfl (by simp) rfl (by simp)
  · obtain ⟨t, w, r, e'⟩ := ((s.judged f).recorded (s.decided f).steer).slewed_eq
      (rateStepOf s.config g ((f.result s.config s.ownId s.round.quiet).correction.getD 0))
      (clampTo s.config.slewLimit ((f.result s.config s.ownId s.round.quiet).correction.getD 0))
    rw [e, e']
    exact State.eq_of_fields (by simp) (by simp) (by simp) rfl (by simp) rfl rfl (by simp) (by simp) rfl rfl rfl rfl (by simp)
      rfl (by simp)

/-- A slot of the tabled state. -/
theorem State.complete_slot (i : Fin 16) : ∃ cfg c mark, (s.complete f).slots[i] = (s.issued f).slots[i].complete cfg c mark := by
  obtain ⟨k, e, -⟩ := s.complete_fields f
  rw [e]
  exact ⟨_, _, _, completeSlots_get _ _ _ i⟩

/-- The record after the issue is the decision's but for the at-limit count and what a STEP moves (R101, R127). -/
theorem State.issued_steer (h : s.running = true) : ∃ n w g,
    (s.issued f).steer = { (s.decided f).steer with atLimitCount := n, utc := w, leapGuard := g } := by
  rcases s.issued_spec f h with ⟨-, e⟩ | ⟨a, -, -, e⟩ | ⟨g, -, e⟩ <;> rw [e]
  · exact ⟨_, _, _, rfl⟩
  · rw [State.takeStep_steer]
    rcases Steering.onStep_cases (s.decided f).steer s.clock.reading a with ⟨-, -, e'⟩ | ⟨-, e'⟩
    · exact ⟨_, _, _, e'⟩
    · exact ⟨_, _, _, e'⟩
  · simp only [State.reportIf_steer]
    exact ⟨_, _, _, rfl⟩

/-- The issue moves the correction total, the last offset and a pending anchor time, and no other part of the reference. -/
theorem State.issued_refState (h : s.running = true) : (s.issued f).ref.state = (s.judged f).ref.state := by
  rcases s.issued_spec f h with ⟨-, e⟩ | ⟨a, -, -, e⟩ | ⟨g, -, e⟩ <;> rw [e]
  · rfl
  · rw [State.takeStep_ref, RefUnit.onStep, (RefUnit.correct_spec _ a).1]
    rfl
  · obtain ⟨k, e'⟩ := ((s.judged f).recorded (s.decided f).steer).slewed_ref
      (rateStepOf s.config g ((f.result s.config s.ownId s.round.quiet).correction.getD 0))
      (clampTo s.config.slewLimit ((f.result s.config s.ownId s.round.quiet).correction.getD 0))
    rw [State.reportIf_ref, State.reportIf_ref, State.setSteer_ref, e']
    rfl

/-- OSC_RANGE is the eighth order at the limit in one spell (R96, R101). -/
theorem State.atLimit_of_spell (limit : Prop) : (s.spellChanges f = false ∧ limit ∧ 7 ≤ (s.decided f).steer.atLimitCount) ↔
    ((s.decided f).steer.nodeState = s.steer.nodeState ∧ (s.decided f).steer.refSelected = s.steer.refSelected ∧
      limit ∧ 7 ≤ s.steer.atLimitCount) := by
  obtain ⟨-, -, spell, count, -⟩ := s.decided_steer f
  rw [← and_assoc (b := _ = _), ← spell]
  exact and_congr_right fun h => by rw [count h]

/-- What the summary takes from the issued decision (R102). -/
theorem State.summaryOf_eq : s.summaryOf f = (s.issued f).completeSummary
    (f.summary s.config s.ownId s.round.quiet s.round.published) (s.decided f).order := by
  obtain ⟨k, hk, -⟩ := s.reported_reported f
  unfold State.summaryOf
  rw [hk]
  rfl

/-- The conditions that a completion sets, and no others. -/
theorem State.complete_flag_iff (h : s.running = true) (i : Fin 16) :
    let t := s.complete f
    let m := s.summaryOf f
    t.flag i = true ↔ s.flag i = true ∨
      (i = 0 ∧ m.source = .none ∧ f.overtaken = false) ∨
      (i = 1 ∧ ∃ a c, m.action = .slew a ∧ m.correction = some c ∧ (s.config.slewLimit : Int) < |c|) ∨
      (i = 2 ∧ ∃ c, m.action = .step c) ∨
      (i = 3 ∧ ((f.overtaken = false ∧ ∃ z, m.target = some (z, .split)) ∨
        (s.ref.state = .valid ∧ t.ref.state = .distrusted))) ∨
      (i = 9 ∧ m.rateStep ≠ none ∧ t.steer.nodeState = s.steer.nodeState ∧ t.steer.refSelected = s.steer.refSelected ∧
        |t.clock.rate| = 100000000 ∧ 7 ≤ s.steer.atLimitCount) ∨
      (i = 14 ∧ ∃ j : Fin 16, s.slots[j].suspect = false ∧ t.slots[j].suspect = true) := by
  have rearranged {u starved clamped stepped osc suspect i3 target judged : Prop} :
      ((u ∨ i3 ∧ judged) ∨ clamped ∨ stepped ∨ osc) ∨ suspect ∨ starved ∨ (i3 ∧ target) ↔
        u ∨ starved ∨ clamped ∨ stepped ∨ (i3 ∧ (target ∨ judged)) ∨ osc ∨ suspect := by tauto
  obtain ⟨k, fields, -⟩ := s.complete_fields f
  obtain ⟨n, w, g, issued⟩ := s.issued_steer f h
  have steer : (s.complete f).steer = (s.issued f).steer := by rw [fields]
  have clock : (s.complete f).clock = (s.issued f).clock := by rw [fields]
  have state : (s.complete f).ref.state = (s.judged f).ref.state := by rw [fields, ← s.issued_refState f h]
  have suspect (j : Fin 16) := s.issued_suspect f h j
  intro t m
  rw [s.complete_flag f i, s.issued_flag f h i, s.judged_flag f i, s.atLimit_of_spell f]
  simp only [suspect, t, state, clock, steer, issued]
  exact rearranged

/-! ## What each order leaves after the completion -/

theorem State.complete_clock : (s.complete f).clock = (s.issued f).clock := by
  obtain ⟨k, fields, -⟩ := s.complete_fields f
  rw [fields]
theorem State.complete_ports : (s.complete f).ports = (s.issued f).ports := by
  obtain ⟨k, fields, -⟩ := s.complete_fields f
  rw [fields]
theorem State.complete_steer : (s.complete f).steer = (s.issued f).steer := by
  obtain ⟨k, fields, -⟩ := s.complete_fields f
  rw [fields]
theorem State.complete_ref : (s.complete f).ref = (s.issued f).ref := by
  obtain ⟨k, fields, -⟩ := s.complete_fields f
  rw [fields]
theorem State.complete_code : (s.complete f).code = (s.issued f).code := by
  obtain ⟨k, fields, -⟩ := s.complete_fields f
  rw [fields]
theorem State.complete_round (h : s.running = true) : (s.complete f).round =
    { quiet := s.round.quiet, flight := none, working := some (s.summaryOf f), published := s.summaryOf f } := by
  obtain ⟨k, fields, -⟩ := s.complete_fields f
  have issued : (s.issued f).round = { s.round with flight := none } := by rw [s.issued_frame f h]
  simp only [fields, issued]
theorem State.complete_fault (h : s.running = true) : (s.complete f).cond.fault = s.cond.fault := by
  obtain ⟨k, fields, hk⟩ := s.complete_fields f
  rw [fields, ← s.issued_fault f h, hk]
  simp only [State.reported, State.reportIf_fault]
  rfl

/-- The correction total takes `q` qns while a last pulse stamp is held (R116). -/
def State.CorrectionTakes (s t : State) (q : Int) : Prop :=
  (s.ref.lastPulse = none → t.ref.correction = s.ref.correction) ∧
    (s.ref.lastPulse ≠ none → -9223372036854775808 ≤ s.ref.correction + q → s.ref.correction + q ≤ 9223372036854775807 →
      t.ref.correction = s.ref.correction + q)

/-- What neither a HOLD nor a SLEW moves of the reference and of the slots. -/
def State.Unmoved (s t : State) : Prop :=
  t.ref.lastOffset = s.ref.lastOffset ∧ t.ref.pendingTime = s.ref.pendingTime ∧
    ∀ i : Fin 16, t.slots[i].current = s.slots[i].current ∧ t.slots[i].counters = s.slots[i].counters

variable {s f}

theorem State.correctionTakes_of_judged {t : State} {q : Int} (h : t.ref.correction = ((s.judged f).ref.correct q).correction) :
    s.CorrectionTakes t q := by
  obtain ⟨st, o, i, judged⟩ := s.judged_ref_eq f
  have spec := ((s.judged f).ref.correct_spec q).2
  rw [← h, judged] at spec
  exact spec

theorem State.complete_unmoved (slots : (s.issued f).slots = s.slots)
    (ref : ∃ k, (s.issued f).ref = { (s.judged f).ref with correction := k }) : s.Unmoved (s.complete f) := by
  obtain ⟨st, o, j, judged⟩ := s.judged_ref_eq f
  obtain ⟨k, ref⟩ := ref
  refine ⟨by rw [s.complete_ref f, ref, judged], by rw [s.complete_ref f, ref, judged], fun i => ?_⟩
  obtain ⟨cfg, c, mark, hi⟩ := s.complete_slot f i
  rw [hi, slots]
  exact Slot.complete_keeps _ _ _ _

/-- A completion that holds. -/
theorem State.complete_of_hold (hi : s.issued f = (s.judged f).recorded (s.decided f).steer) : let t := s.complete f
    s.Unmoved t ∧ t.clock = s.clock ∧ t.ports = s.ports ∧ t.code = s.code ∧ t.ref.correction = s.ref.correction ∧
      t.steer.leapGuard = s.steer.leapGuard := by
  obtain ⟨st, o, i, judged⟩ := s.judged_ref_eq f
  refine ⟨State.complete_unmoved (by rw [hi]; simp) ⟨(s.judged f).ref.correction, by rw [hi]; rfl⟩, ?_, ?_, ?_, ?_, ?_⟩
  · rw [s.complete_clock f, hi]; simp
  · rw [s.complete_ports f, hi]; simp
  · rw [s.complete_code f, hi]; simp
  · rw [s.complete_ref f, hi, State.recorded_ref, judged]
  · rw [s.complete_steer f, hi]
    exact (s.decided_steer f).1

/-- A completion that steps. -/
theorem State.complete_of_step {a : Int} (acquire : (s.decided f).steer.nodeState = .acquire)
    (hi : s.issued f = (((s.judged f).recorded (s.decided f).steer).setClock { s.clock with slew := none }).takeStep a) :
    let t := s.complete f
    let r := s.clock.reading.plus a
    t.clock = { s.clock with reading := r, slew := none, stepCount := s.clock.stepCount + 1#8, named := s.namedFrom r } ∧
    (∀ p, t.ports.get p = { s.ports.get p with
      history := (s.ports.get p).history.map fun h => { h with valid := false } }) ∧
    t.steer = (s.decided f).steer.onStep s.clock.reading a ∧
    (∀ i : Fin 16, CopiesStepped s.config .acquire a r s.slots[i] t.slots[i]) ∧
    t.ref = (s.judged f).ref.onStep a ∧
    t.code = { s.code with
      pendingFrame := if 2000000000 ≤ r.fraction
        then some (t.composeFrame ((r.seconds + 1) % 1099511627776) s.code.referenceStep) else none
      current := s.code.current.filter fun f => f.second = BitVec.ofNat 40 r.seconds } := by
  refine ⟨?clock, fun p => ?history, ?steer, fun i => ?copies, ?ref, ?code⟩
  case clock =>
    rw [s.complete_clock f, hi]
    simp [State.jump, State.namedFrom, State.ownId, State.config]
  case history =>
    rw [s.complete_ports f, hi]
    simp [LinkPort.invalidate]
  case steer => rw [s.complete_steer f, hi, State.takeStep_steer]; rfl
  case copies =>
    obtain ⟨cfg, c, mark, slot⟩ := s.complete_slot f i
    obtain ⟨current, counters⟩ := Slot.complete_keeps (s.issued f).slots[i] cfg c mark
    have stepped : (s.issued f).slots[i] = s.slots[i].onStep s.config .acquire a (s.clock.reading.plus a) := by
      rw [hi]
      simp [acquire, State.config]
    rw [slot]
    rw [stepped] at current counters ⊢
    exact (Slot.onStep_spec _ _ _ _ _).congr current counters
  case ref => rw [s.complete_ref f, hi, State.takeStep_ref]; rfl
  case code =>
    have composed : (s.complete f).composeFrame = (s.issued f).composeFrame := by
      obtain ⟨k, fields, -⟩ := s.complete_fields f
      rw [fields]
      rfl
    rw [s.complete_code f, composed, hi, State.takeStep_code]
    simp only [State.setClock_code, State.recorded_code, State.judged_code, State.setClock_clock]
    rfl

/-- The reference after a completion that steps (R116, R120, R123). -/
theorem State.ref_of_step {t : State} {a : Int} (ref : t.ref = (s.judged f).ref.onStep a) :
    s.CorrectionTakes t a ∧
    (s.ref.lastOffset = none → t.ref.lastOffset = none) ∧
    (∀ o, s.ref.lastOffset = some o → ∃ z k : Int, t.ref.lastOffset = some z ∧ z = o - a + k * 4000000000 ∧
      -2000000000 ≤ z ∧ z < 2000000000) ∧
    t.ref.pendingTime = s.ref.pendingTime.map (fun x => { x with expiry := x.expiry.plus a }) := by
  obtain ⟨st, o, j, judged⟩ := s.judged_ref_eq f
  obtain ⟨correction, offset⟩ := (s.judged f).ref.onStep_spec a
  rw [← ref] at correction offset
  refine ⟨State.correctionTakes_of_judged correction, ?_⟩
  rw [judged] at offset
  exact offset

/-- The UTC values and the leap guard after a completion that steps (R125 to R127). -/
theorem State.utc_of_step {t : State} {a : Int} (steer : t.steer = (s.decided f).steer.onStep s.clock.reading a) :
    ∃ w : UtcValues,
      ((s.steer.epochKnown = true ∨ f.offer s.config = none) → (t.steer.hostTimescale = true ∨ s.steer.leapGuard ≠ none) →
        w = s.steer.utc) ∧
      if 0 < a ∧ w.leapJumped s.clock.reading a = true
      then t.steer.utc = w.leap ∧ t.steer.leapGuard = some ((s.clock.reading.plus a).plus 8000000000)
      else t.steer.utc = w ∧ t.steer.leapGuard = s.steer.leapGuard.map fun g => g.plus a := by
  obtain ⟨guard, -, -, -, utc⟩ := s.decided_steer f
  refine ⟨(s.decided f).steer.utc, ?_⟩
  rw [steer]
  rcases Steering.onStep_cases (s.decided f).steer s.clock.reading a with ⟨pos, jumped, e⟩ | ⟨free, e⟩ <;> rw [e]
  · rw [if_pos ⟨pos, jumped⟩]
    exact ⟨utc, rfl, rfl⟩
  · rw [if_neg free, ← guard]
    exact ⟨guard ▸ utc, rfl, rfl⟩

/-- A completion that slews (R8 to R11). -/
theorem State.complete_of_slew {r a : Int} {n : Nat} {reached clamped : Bool}
    (hi : s.issued f = (((((s.judged f).recorded (s.decided f).steer).slewed r a).setSteer
      { (s.decided f).steer with atLimitCount := n }).reportIf reached .oscRange).reportIf clamped .clamped) :
    let t := s.complete f
    s.Unmoved t ∧ t.ports = s.ports ∧ t.code = s.code ∧
    (s.clock.slew = none → t.ref.correction = s.ref.correction) ∧
    (∀ w, s.clock.slew = some w → s.CorrectionTakes t (w.amount - w.delivered)) ∧
    t.steer.leapGuard = s.steer.leapGuard ∧
    t.clock = { s.clock with
      reading := s.clock.settledReading, rate := rateAfter s.clock.rate r
      slew := newSlew s.config a s.clock.settledReading } := by
  obtain ⟨st, o, j, judged⟩ := s.judged_ref_eq f
  have guard := (s.decided_steer f).1
  generalize hv : (s.judged f).recorded (s.decided f).steer = v at hi
  have vclock : v.clock = s.clock := by rw [← hv]; simp
  have vref : v.ref = (s.judged f).ref := by rw [← hv]; rfl
  have vconfig : v.config = s.config := by rw [← hv]; simp
  obtain ⟨_, _, _, frame⟩ := v.slewed_eq r a
  obtain ⟨clock, free, settled⟩ := v.slewed_spec r a
  obtain ⟨total, kept⟩ := v.slewed_ref r a
  rw [vclock, vconfig] at clock
  rw [vclock, vref] at free settled
  rw [vref] at kept
  have ref : (s.issued f).ref = (v.slewed r a).ref := by rw [hi]; simp
  refine ⟨State.complete_unmoved ?slots ⟨total, ref.trans kept⟩, ?ports, ?code, fun h => ?free, fun w h => ?settled, ?guard, ?clock⟩
  case slots =>
    rw [hi, frame, ← hv]
    simp
  case ports =>
    rw [s.complete_ports f, hi, frame, ← hv]
    simp
  case code =>
    rw [s.complete_code f, hi, frame, ← hv]
    simp
  case free => rw [s.complete_ref f, ref, free h, judged]
  case settled => exact State.correctionTakes_of_judged (by rw [s.complete_ref f, ref, settled w h])
  case guard =>
    rw [s.complete_steer f, hi]
    simpa using guard
  case clock =>
    rw [s.complete_clock f, hi]
    simpa using clock

/-- Settles O27: the issue of the decision is a HOLD, a STEP or a SLEW, and what follows it publishes and reports. -/
theorem roundCompletionPublishes : Obligations.RoundCompletionPublishes := by
  intro e s f u hh hr hf
  have run : u.running = true := by simp [State.running, State.held, hh, hr]
  have start : exec (.roundCompletion e) s = .next (u.complete f) := by
    simp only [exec, execRoundCompletion, u] at hf run ⊢
    simp only [hf, run, if_true]
  obtain ⟨k, fields, -⟩ := u.complete_fields f
  have frame := u.issued_frame f run
  have round := u.complete_round f run
  have steer := u.complete_steer f
  have clock := u.complete_clock f
  obtain ⟨n, w, g, issued⟩ := u.issued_steer f run
  refine ⟨u.complete f, start, by rw [fields, frame], ?_⟩
  intro m
  have hm : m = u.summaryOf f := by simp only [m, round]
  have summary : m = (u.issued f).completeSummary (f.summary u.config u.ownId u.round.quiet u.round.published)
      (u.decided f).order := by rw [hm, u.summaryOf_eq f]
  refine ⟨by rw [hm, round], by rw [fields]; rfl, fun i => ?slot, ?running, by rw [summary]; rfl, by rw [summary]; rfl,
    by rw [summary, steer]; rfl, by rw [summary]; rfl, by rw [summary]; rfl, by rw [summary, clock]; rfl,
    by rw [summary, steer]; rfl, by rw [summary, steer]; rfl, by rw [summary, clock]; rfl, ?accuracyClass,
    u.complete_fault f run, fun i => hm ▸ u.complete_flag_iff f run i, ?order⟩
  case slot =>
    rw [fields]
    exact vmap_get _ _ i.val i.isLt
  case running =>
    obtain ⟨y, hy, hyr, -⟩ := u.decided_cases f run
    rw [steer, issued]
    exact hy ▸ hyr
  case accuracyClass =>
    rw [steer, issued]
    exact (u.decided_steer f).2.1
  case order =>
    have order : m.action = (u.decided f).order.action ∧ m.rateStep = (u.decided f).order.rateStep := by
      rw [summary]
      exact ⟨rfl, rfl⟩
    intro counts unmoved
    rcases u.issued_spec f run with ⟨hd, hi⟩ | ⟨a, hd, acquire, hi⟩ | ⟨g, hd, hi⟩ <;> rw [hd] at order <;>
      obtain ⟨action, rateStep⟩ := order <;> rw [action]
    · obtain ⟨unmoved, rest⟩ := State.complete_of_hold hi
      exact ⟨unmoved, rateStep, rest⟩
    · obtain ⟨clock, history, steer', copies, ref, code⟩ := State.complete_of_step acquire hi
      obtain ⟨correction, noOffset, offset, anchor⟩ := State.ref_of_step ref
      have flag : (u.complete f).flag 2 = true := by
        refine (u.complete_flag_iff f run 2).2 (.inr (.inr (.inr (.inl ⟨rfl, a, ?_⟩))))
        rw [← hm, action]
        rfl
      refine ⟨rateStep, flag, clock, history, ?_, copies, correction, noOffset, offset, anchor, State.utc_of_step steer', code⟩
      rw [steer, issued]
      exact acquire
    · obtain ⟨unmoved, ports, code, free, settled, guard, clock⟩ := State.complete_of_slew hi
      have slew := newSlew_spec u.config (clampTo u.config.slewLimit
        ((f.result u.config u.ownId u.round.quiet).correction.getD 0)) u.clock.settledReading
      refine ⟨_, unmoved, rateStep, clampTo_le (Int.natCast_nonneg _), ports, code, free, settled, guard, ?_, ?_⟩
      · rw [clock, rateAfter_eq]
        rfl
      · rw [clock]
        exact slew

end Sys2Proof.Machine
end

section
/-! SUPPORT. The link ports as the statements see them: one counter of a port or a slot, LINK_DROP and LINK_UP (R25, R34),
and the life of a tick from the transmit instant to its last byte (R29 to R36). -/

namespace Sys2Proof.Machine

variable (s : State)

/-! ## One counter advanced (R26, R66) -/

theorem LinkPort.bump_counted (p : LinkPort) (c : PortCounter) : PortCounted p (p.bump c) c.index :=
  ⟨rfl, fun j => p.bump_get c j.val j.isLt⟩

theorem Slot.bump_counted (x : Slot) (c : SlotCounter) : SlotCounted x (x.bump c) c.index :=
  ⟨rfl, fun j => x.bump_get c j.val j.isLt⟩

theorem LinkPort.bump_counter (p : LinkPort) (c : PortCounter) (k : Fin 16) :
    (p.bump c).counters[k] = if k = c.index then min 65535 (p.counters[k] + 1) else p.counters[k] := by
  simp only [(p.bump_counted c).2 k, Fin.ext_iff]

/-- A counter after one counter of a port is advanced conditionally. -/
theorem LinkPort.bump_ite_counter (p : LinkPort) (b : Bool) (c : PortCounter) (k : Fin 16) :
    (if b then p.bump c else p).counters[k] =
      if k = c.index ∧ b = true then min 65535 (p.counters[k] + 1) else p.counters[k] := by
  cases b
  · simp
  · rw [if_pos rfl, p.bump_counter]
    by_cases h : k = c.index <;> simp [h]

theorem State.running_of (hh : s.pins.resetAsserted = false) (hr : s.steer.nodeState.running = true) : s.running = true := by
  simp [State.running, State.held, hh, hr]

/-! ## LINK_DROP and LINK_UP (R25, R34) -/

/-- A tick cut short is counted lost. -/
theorem LinkPort.cutShort_counter (p : LinkPort) (k : Fin 16) : p.cutShort.counters[k] =
    if k = 1 ∧ p.tx.isSome = true then min 65535 (p.counters[k] + 1) else p.counters[k] := by
  obtain ⟨-, quiet, lost⟩ := p.cutShort_spec
  cases h : p.tx with
  | none => simp [quiet h]
  | some x => simpa [Fin.ext_iff] using lost (by simp [h]) k

/-- A port that goes DOWN: LINK_DROPS counts it, RX_ERROR a frame partly in, and TX_LOST a tick cut short. -/
theorem LinkPort.drop_spec (p : LinkPort) (inFrame : Bool) :
    p.drop inFrame = { p with up := false, tx := none, counters := (p.drop inFrame).counters } ∧
      ∀ k : Fin 16, (p.drop inFrame).counters[k] =
        if k = 2 ∨ (k = 3 ∧ inFrame = true) ∨ (k = 1 ∧ p.tx.isSome = true) then min 65535 (p.counters[k] + 1)
        else p.counters[k] := by
  constructor
  · unfold LinkPort.drop
    rw [p.cutShort_spec.1]
    cases inFrame <;> rfl
  · intro k
    have cut := p.cutShort_counter k
    simp only [LinkPort.drop, LinkPort.bump_counter, LinkPort.bump_ite_counter, cut, PortCounter.index]
    by_cases h2 : k = 2
    · simp [h2]
    · by_cases h3 : k = 3 <;> simp [h2, h3]

/-- A port that is UP goes DOWN with its line, from CONFIG on (R25). -/
theorem State.dropLink_of_up (p : PortId) (receiving : Bool) (hh : s.pins.resetAsserted = false)
    (hw : s.steer.nodeState ≠ .warmup) (up : (s.ports.get p).up = true) : s.dropLink p receiving =
      ((s.setLinkPin p false).modifyPort p (·.drop (receiving && s.steer.nodeState.running))).report .link := by
  simp [State.dropLink, State.followsLink, State.held, State.running, hh, hw, up]

/-- A line that falls moves the pin alone where it is not followed, or the port is DOWN already (R25). -/
theorem State.dropLink_of_still (p : PortId) (receiving : Bool)
    (h : s.steer.nodeState = .warmup ∨ (s.ports.get p).up = false) : s.dropLink p receiving = s.setLinkPin p false := by
  rcases h with h | h <;> simp [State.dropLink, State.followsLink, h]

/-- Settles O15: the line followed and not, the port UP and DOWN. -/
theorem linkFollowsLine : Obligations.LinkFollowsLine := by
  intro e p receiving s u hh
  have drop : exec (.linkDrop e p receiving) s = .next (u.dropLink p receiving) := rfl
  have raise : exec (.linkUp e p) s = .next (u.raiseLink p) := rfl
  refine ⟨fun hw => ⟨?_, ?_⟩, fun hw => ⟨fun up => ?_, fun down => ?_, ?_⟩⟩
  · rw [drop, u.dropLink_of_still p receiving (.inl hw)]
    rfl
  · rw [raise, State.raiseLink, if_neg (by simp [State.followsLink, hw])]
    rfl
  · rw [drop, u.dropLink_of_up p receiving hh hw up]
    obtain ⟨frame, counters⟩ := (u.ports.get p).drop_spec (receiving && u.steer.nodeState.running)
    let inFrame := receiving && u.steer.nodeState.running
    have port : (((u.setLinkPin p false).modifyPort p (·.drop inFrame)).report .link).ports.get p =
        (u.ports.get p).drop inFrame := by
      rw [State.report_ports, State.modifyPort_same]
      rfl
    refine ⟨_, rfl, rfl, fun q hq => by rw [State.report_ports, State.modifyPort_other _ _ hq]; rfl, ?_, fun k => ?_⟩
    · rw [port]
      exact frame
    · rw [port, counters k]
      simp only [Bool.and_eq_true]
  · rw [drop, u.dropLink_of_still p receiving (.inr down)]
    rfl
  · rw [raise, State.raiseLink, if_pos (by simp [State.followsLink, State.held, hh, hw])]
    rfl

/-! ## TRANSMIT_INSTANT (R29 to R31, R34, R36, R114) -/

/-- A port at the transmit instant, UP and DOWN, where no tick is still leaving (R31, R34, R36). -/
theorem LinkPort.transmit_spec (p : LinkPort) (n : BitVec 32) (x : Transmission) :
    let q := p.transmit n x
    q = { p with history := pruneHistory p.history n, tx := q.tx, counters := q.counters } ∧
      (p.up = true → q.tx = some x ∧ (p.tx = none → q.counters = p.counters)) ∧
      (p.up = false → q.tx = none ∧ (p.tx = none → Counted p.counters q.counters 1)) := by
  obtain ⟨cut, quiet, -⟩ := p.cutShort_spec
  have cutTx : p.cutShort.tx = none := by rw [cut]
  cases up : p.up with
  | true =>
    have e : p.transmit n x = { p.cutShort with history := pruneHistory p.history n, tx := some x } := by
      simp [LinkPort.transmit, up]
    refine ⟨?_, fun _ => ⟨by rw [e], fun idle => by rw [e, ← quiet idle]⟩, nofun⟩
    rw [e, cut, ← up]
  | false =>
    have e : p.transmit n x = { p.cutShort with history := pruneHistory p.history n }.bump .txLost := by
      simp [LinkPort.transmit, up]
    refine ⟨?_, nofun, fun _ => ⟨by rw [e]; exact cutTx, fun idle => ?_⟩⟩
    · rw [e, cut, ← up]
      rfl
    · rw [e, ← quiet idle]
      exact (LinkPort.bump_counted _ .txLost).2

theorem State.takeTransmit_port (t : Timestamp) (p : PortId) : (s.takeTransmit t).ports.get p =
    (s.ports.get p).transmit (roundOfTransmit s.config s.ownId t) (s.composeTick (roundOfTransmit s.config s.ownId t) p) := by
  cases p <;> rfl

/-- The status fields of a tick by the node state (Table 5-8). -/
theorem Steering.tickStatus_spec (y : Steering) (cfg : ConfigRecord) (hr : y.nodeState.running = true) :
    let st := y.tickStatus cfg
    (y.nodeState = .listen → st.state = .listen) ∧ (y.nodeState = .acquire → st.state = .acquire) ∧
      (y.nodeState = .track → st.state = .track) ∧ (y.nodeState = .holdover → st.state = .holdover) ∧
      (y.nodeState = .anchored → st.state = .anchored) ∧
      (y.nodeState = .listen ∨ y.nodeState = .acquire → st.accuracyClass = 15#4) ∧
      (y.nodeState ≠ .listen → y.nodeState ≠ .acquire → st.accuracyClass = BitVec.ofNat 4 y.accuracyClass) := by
  cases h : y.nodeState with
  | warmup | config | fault => rw [h] at hr; cases hr
  | listen | acquire | track | holdover | anchored =>
    simp [Steering.tickStatus, h, NodeState.sender, NodeState.settled]

/-- The echo entry carries the round modulo 16 and the ingress stamp, its seconds modulo 256 (R30). -/
theorem PrevStamp.echo_eq (v : PrevStamp) (i : Fin 16) : v.echo i =
    { peer := BitVec.ofNat 4 i.val, round16 := BitVec.ofNat 4 (v.round.toNat % 16)
      nanos := BitVec.ofNat 30 (v.stamp.fraction / 4), quarter := BitVec.ofNat 2 (v.stamp.fraction % 4)
      seconds := BitVec.ofNat 8 (v.stamp.seconds % 256) } := by
  have round16 : v.round.extractLsb' 0 4 = BitVec.ofNat 4 (v.round.toNat % 16) := by
    apply BitVec.eq_of_toNat_eq
    simp
  have seconds : BitVec.ofNat 8 v.stamp.seconds = BitVec.ofNat 8 (v.stamp.seconds % 256) := by
    apply BitVec.eq_of_toNat_eq
    simp
  rw [PrevStamp.echo, round16, seconds]
  rfl

/-- A part of each entry of the echo list (R30, R33). -/
theorem echoList_map {α : Type} (slots : Vector Slot 16) (port : PortId) (f : Echo × BitVec 8 → α) :
    (echoList slots port).map f =
      ((List.finRange 16).filterMap fun i => (slots[i].prev.get port).map fun v => f (v.echo i, v.step)).take 15 := by
  simp only [echoList, List.map_take, List.map_filterMap, Option.map_map, Function.comp_def]

theorem State.exec_transmitInstant {s : State} {e : Elapsed} {t : Timestamp}
    (named : (s.elapse e).clock.named.transmit = some t) (run : (s.elapse e).running = true)
    (reached : (s.elapse e).clock.reading.reached t = true) :
    exec (.transmitInstant e) s = .next ((s.elapse e).takeTransmit t) := by
  show execTransmitInstant e s = _
  simp only [execTransmitInstant, named, run, reached, Bool.and_self, if_true]

/-- Settles O16: each port on its own, the tick composed field by field. -/
theorem transmitInstantBeginsTicks : Obligations.TransmitInstantBeginsTicks := by
  intro e s at_ u n hh hr named reached
  have run := u.running_of hh hr
  refine ⟨_, State.exec_transmitInstant named run reached, rfl, fun p => ?_⟩
  rw [u.takeTransmit_port at_ p]
  obtain ⟨frame, isUp, isDown⟩ := (u.ports.get p).transmit_spec n (u.composeTick n p)
  refine ⟨frame, fun up => ?_, isDown⟩
  obtain ⟨tick, quiet⟩ := isUp up
  obtain ⟨listen, acquire, track, holdover, anchored, unsettled, settled⟩ := u.steer.tickStatus_spec u.config hr
  refine ⟨_, tick, rfl, rfl, rfl, rfl, rfl, rfl,
    ⟨listen, acquire, track, holdover, anchored, rfl, rfl, unsettled, settled, rfl, rfl, rfl, rfl⟩, ?_, ?_, quiet⟩
  · exact (echoList_map u.slots p (·.1)).trans (by simp only [PrevStamp.echo_eq])
  · exact echoList_map u.slots p (·.2)

/-! ## TICK_EGRESS and TICK_TX_COMPLETE (R32, R33, R35, R36) -/

theorem steppedFlag_eq (egressStep now : BitVec 8) (echoSteps : List (BitVec 8)) :
    steppedFlag egressStep now echoSteps = decide (now ≠ egressStep ∨ ∃ c ∈ echoSteps, c ≠ now) := by
  rw [Bool.eq_iff_iff]
  simp [steppedFlag]

/-- The egress of a tick that waits for it (R32). -/
theorem LinkPort.egress_of_waiting {p : LinkPort} {x : Transmission} (tx : p.tx = some x) (waits : x.egress = none)
    (cfg : ConfigRecord) (id : BitVec 4) (port : PortId) (t : Timestamp) (step : BitVec 8) :
    p.egress cfg id port t step = { p with
      egressStep := step
      tx := some { x with
        tick := x.stamped p t step, egress := some { stamp := t, step := step }
        frame := cfg.frameOf id port (cfg.payloadOf (x.stamped p t step)) } } := by
  simp only [LinkPort.egress, tx, waits]

/-- The end of a tick that has passed its egress (R32, R36). -/
theorem LinkPort.txComplete_of_stamped {p : LinkPort} {x : Transmission} {g : Egress} (tx : p.tx = some x)
    (stamped : x.egress = some g) (step : BitVec 8) :
    p.txComplete step = LinkPort.bump { p with
      tx := none, sent := x.frame
      history := lastTwo (p.history ++
        [{ round := x.tick.round, tx := g.stamp, step := g.step, valid := decide (step = g.step) }]) } .txSent := by
  simp only [LinkPort.txComplete, tx, stamped]

/-- Settles O17: the port at egress is the stated one, and no other part moves. -/
theorem egressStampsTick : Obligations.EgressStampsTick := by
  intro e p s x u hh hr tx waits tick q
  have stamped : x.stamped (u.ports.get p) u.clock.reading u.clock.stepCount = tick := by
    simp only [Transmission.stamped, steppedFlag_eq]
    rfl
  have egress : (u.ports.get p).egress u.config u.port.strapId p u.clock.reading u.clock.stepCount = q := by
    rw [LinkPort.egress_of_waiting tx waits, stamped]
    rfl
  have taken : exec (.tickEgress e p) s = .next (u.modifyPort p
      (·.egress u.config u.port.strapId p u.clock.reading u.clock.stepCount)) :=
    congrArg Host.Outcome.next (if_pos (u.running_of hh hr))
  rw [taken, State.modifyPort, egress]
  rfl

/-- Settles O18: the port at the end of the tick, its counter apart. -/
theorem txCompleteRecordsTick : Obligations.TxCompleteRecordsTick := by
  intro e p s x g u hh hr tx stamped h
  have taken : exec (.tickTxComplete e p) s = .next (u.modifyPort p (·.txComplete u.clock.stepCount)) :=
    congrArg Host.Outcome.next (if_pos (u.running_of hh hr))
  have sent := LinkPort.txComplete_of_stamped tx stamped u.clock.stepCount
  refine ⟨(u.ports.get p).txComplete u.clock.stepCount, taken, ?_, ?_⟩
  · rw [sent]
    rfl
  · rw [sent]
    exact (LinkPort.bump_counted _ .txSent).2

end Sys2Proof.Machine
end

section
/-! SUPPORT. The Receive Filter as the statements see it: the stage at which a frame leaves it, what a drop counts and reports,
and nothing else (R24, R27, R38 to R43). -/

namespace Sys2Proof.Machine

variable (s : State)

/-! ## One port and one slot counted (R26, R66) -/

theorem State.bumpPort_counted (p : PortId) (c : PortCounter) :
    PortCounted (s.ports.get p) ((s.bumpPort p c).ports.get p) c.index ∧
      ∀ q, q ≠ p → (s.bumpPort p c).ports.get q = s.ports.get q := by
  refine ⟨?_, fun q hq => s.modifyPort_other _ hq⟩
  rw [State.bumpPort, State.modifyPort_same]
  exact (s.ports.get p).bump_counted c

theorem State.bumpSlot_counted (i : Fin 16) (c : SlotCounter) : SlotCounted s.slots[i] (s.bumpSlot i c).slots[i] c.index ∧
    ∀ j : Fin 16, j ≠ i → (s.bumpSlot i c).slots[j] = s.slots[j] := by
  refine ⟨?_, fun j hj => vmodify_get_ne _ _ _ j.isLt fun e => hj (Fin.ext e)⟩
  have same : (s.bumpSlot i c).slots[i] = s.slots[i].bump c := vmodify_get_same _ _ _
  rw [same]
  exact s.slots[i].bump_counted c

/-- A drop that a counter of the port and one of the slot count, and nothing else does. -/
theorem State.bumpBoth_counted (p : PortId) (c : PortCounter) (i : Fin 16) (d : SlotCounter) :
    let t := (s.bumpPort p c).bumpSlot i d
    t = { s with ports := t.ports, slots := t.slots } ∧ PortCounted (s.ports.get p) (t.ports.get p) c.index ∧
      (∀ q, q ≠ p → t.ports.get q = s.ports.get q) ∧ SlotCounted s.slots[i] t.slots[i] d.index ∧
      ∀ j : Fin 16, j ≠ i → t.slots[j] = s.slots[j] :=
  ⟨rfl, (s.bumpPort_counted p c).1, (s.bumpPort_counted p c).2, ((s.bumpPort p c).bumpSlot_counted i d).1,
    ((s.bumpPort p c).bumpSlot_counted i d).2⟩

/-! ## The frame at a port (R24, R27, R38, R39) -/

theorem State.exec_frameReceive {s : State} {e : Elapsed} {p : PortId} (frame : List Byte)
    (hh : (s.elapse e).pins.resetAsserted = false) (hr : (s.elapse e).steer.nodeState.running = true)
    (up : ((s.elapse e).ports.get p).up = true) :
    exec (.frameReceive e p frame) s = .next ((s.elapse e).takeFrame p frame) :=
  congrArg Host.Outcome.next (if_pos (by simp only [State.takesFrames, State.running_of _ hh hr, up, Bool.and_self]))

/-- A frame at a port that takes none. -/
theorem State.exec_frameReceive_discards {s : State} {e : Elapsed} {p : PortId} (frame : List Byte)
    (h : (s.elapse e).steer.nodeState.running = false ∨ ((s.elapse e).ports.get p).up = false) :
    exec (.frameReceive e p frame) s = .next (s.elapse e) := by
  refine congrArg Host.Outcome.next (if_neg ?_)
  simp only [State.takesFrames, State.running, Bool.and_eq_true, not_and, Bool.not_eq_true]
  rintro ⟨-, run⟩
  exact h.resolve_left (by rw [run]; decide)

theorem State.takeFrame_of_fails {p : PortId} {frame : List Byte} {c : PortCounter} (sound : frameSound frame = true)
    (fails : structural s.config s.port.strapId frame = .fails c) :
    s.takeFrame p frame = (s.bumpPort p c).reportIf (decide (c = .rxClash)) .idClash := by
  simp only [State.takeFrame, sound, if_true, State.filterFrame, fails]

theorem State.takeFrame_of_passes {p : PortId} {frame body : List Byte} {tick : Tick} (sound : frameSound frame = true)
    (passes : structural s.config s.port.strapId frame = .passes tick body) :
    s.takeFrame p frame = if checkVerifies s.config body then s.judgeCopy p tick
      else ((s.bumpPort p .rxBadCheck).bumpSlot tick.sender.toFin .badCheck).report .badCheck := by
  simp only [State.takeFrame, sound, if_true, State.filterFrame, passes]

/-- A frame that a structural check drops: its counter, and ID_CLASH where it claims the own id (R39). -/
theorem State.frameDrop_counted (p : PortId) (c : PortCounter) :
    let t := (s.bumpPort p c).reportIf (decide (c = .rxClash)) .idClash
    t = { s with ports := t.ports, cond := if c.index = 8 then s.cond.raise 7 else s.cond } ∧
      PortCounted (s.ports.get p) (t.ports.get p) c.index ∧ ∀ q, q ≠ p → t.ports.get q = s.ports.get q := by
  refine ⟨by cases c <;> rfl, ?_⟩
  rw [State.reportIf_ports]
  exact s.bumpPort_counted p c

/-- Settles O19: the stages in their order. -/
theorem structuralChecksDrop : Obligations.StructuralChecksDrop := by
  intro e p frame s u body
  refine ⟨State.exec_frameReceive_discards frame, fun k hh hr up h => ?_⟩
  obtain ⟨c, hc, taken⟩ : ∃ c : PortCounter, c.index.val = k.val ∧
      u.takeFrame p frame = (u.bumpPort p c).reportIf (decide (c = .rxClash)) .idClash := by
    split at h
    · next unsound => exact ⟨.rxError, Option.some.inj h, by simp [State.takeFrame, unsound]⟩
    · next sound =>
      have fails {c : PortCounter} := u.takeFrame_of_fails (p := p) (c := c) (eq_true_of_ne_false sound)
      split at h
      · next other => exact ⟨.rxOther, Option.some.inj h, fails (if_pos other)⟩
      · next ours =>
        have checked : structural u.config u.port.strapId frame = _ := if_neg ours
        split at h
        · next decoded => exact ⟨.rxFormat, Option.some.inj h, fails (by rw [checked, decoded])⟩
        · next tick decoded =>
          have checked : structural u.config u.port.strapId frame = checkTick u.config u.port.strapId tick body := by
            rw [checked, decoded]
          split at h
          · next stranger => exact ⟨.rxEnsemble, Option.some.inj h, fails (checked.trans (if_pos stranger))⟩
          · next member =>
            rw [checkTick, if_neg member] at checked
            split at h
            · next foreign =>
              refine ⟨.rxForeign, Option.some.inj h, fails (checked.trans ?_)⟩
              by_cases period : tick.period = u.config.roundCode
              · rw [if_neg (not_not.mpr period), if_pos (foreign.resolve_left (not_not.mpr period))]
              · rw [if_pos period]
            · next fits =>
              obtain ⟨period, sender⟩ := not_or.mp fits
              rw [if_neg period, if_neg sender] at checked
              split at h
              · next clash => exact ⟨.rxClash, Option.some.inj h, fails (checked.trans (if_pos clash))⟩
              · cases h
  obtain rfl : c.index = k := Fin.ext hc
  rw [State.exec_frameReceive frame hh hr up, taken]
  exact ⟨_, rfl, u.frameDrop_counted p c⟩

/-! ## Check word, window and duplicate (R40, R41, R43) -/

/-- Settles O20: the filter ends at the check word, with one counter of the port and one of the slot. -/
theorem badCheckDrops : Obligations.BadCheckDrops := by
  intro e p frame s tick body u hh hr up sound passes bad
  have fails : checkVerifies u.config body = false := decide_eq_false bad
  rw [State.exec_frameReceive frame hh hr up, u.takeFrame_of_passes sound passes, fails]
  obtain ⟨-, counted⟩ := u.bumpBoth_counted p .rxBadCheck tick.sender.toFin .badCheck
  exact ⟨_, rfl, rfl, counted⟩

/-- Outside LISTEN a copy is judged against the boundary that it names (R41). -/
theorem State.attribution_of_named (h : s.steer.nodeState ≠ .listen) (round : BitVec 32) :
    s.attribution round = (.named, round, judgeWindow s.config (fromNamedBoundary s.config round s.clock.reading)) :=
  if_neg h

/-- In LISTEN every copy is attributed to the next close (R42). -/
theorem State.attribution_of_listen (h : s.steer.nodeState = .listen) (round : BitVec 32) :
    s.attribution round = (.nextClose, roundOfClose s.config (nextClose s.config s.clock.reading), .inTime) :=
  if_pos h

/-- The counters that a stamp outside the window moves, where the window is shorter than a round (R41). -/
theorem judgeWindow_counters (cfg : ConfigRecord) {d : Int} (short : (cfg.closeQns : Int) < (cfg.roundQns / 2 : Nat))
    (out : ¬(-(cfg.closeQns : Int) ≤ d ∧ d < cfg.closeQns)) :
    let c : Int := cfg.closeQns
    let half : Int := (cfg.roundQns / 2 : Nat)
    ∃ k m, (judgeWindow cfg d).counters = some (k, m) ∧
      k.index.val = (if half ≤ d ∨ d ≤ -half then 12 else if c ≤ d then 10 else 11) ∧
      m.index.val = if c ≤ d then 2 else 3 := by
  intro c half
  unfold judgeWindow
  by_cases after : half ≤ d
  · have late : c ≤ d := short.le.trans after
    exact ⟨.rxMisnumbered, .late, by rw [if_pos after]; rfl, (if_pos (.inl after)).symm, (if_pos late).symm⟩
  · rw [if_neg after]
    by_cases before : d ≤ -half
    · have early : ¬c ≤ d := by omega
      exact ⟨.rxMisnumbered, .early, by rw [if_pos before]; rfl, (if_pos (.inr before)).symm, (if_neg early).symm⟩
    · rw [if_neg before]
      have near : ¬(half ≤ d ∨ d ≤ -half) := not_or.mpr ⟨after, before⟩
      rw [if_neg near]
      by_cases late : c ≤ d
      · exact ⟨.rxLate, .late, by rw [if_pos late]; rfl, (if_pos late).symm, (if_pos late).symm⟩
      · have early : d < -c := by omega
        exact ⟨.rxEarly, .early, by rw [if_neg late, if_pos early]; rfl, (if_neg late).symm, (if_neg late).symm⟩

/-- A stamp in [−C, +C) of the boundary is in time, where the window is shorter than a round (R41). -/
theorem judgeWindow_inTime (cfg : ConfigRecord) {d : Int} (short : cfg.closeQns * 2 < cfg.roundQns)
    (low : -(cfg.closeQns : Int) ≤ d) (high : d < cfg.closeQns) : judgeWindow cfg d = .inTime := by
  obtain ⟨x, even⟩ : ∃ x, cfg.roundQns = 2 * x := ⟨cfg.roundMs * 2000000, by
    show cfg.roundMs * 4000000 = _
    omega⟩
  unfold judgeWindow
  simp only
  rw [if_neg (by omega), if_neg (by omega), if_neg (by omega), if_neg (by omega)]

/-- A copy that is not in time is dropped, counted, and sets LATE (R41). -/
theorem State.judgeCopy_of_untimely (p : PortId) {tick : Tick} {k : PortCounter} {m : SlotCounter}
    (named : s.steer.nodeState ≠ .listen)
    (judged : (judgeWindow s.config (fromNamedBoundary s.config tick.round s.clock.reading)).counters = some (k, m)) :
    s.judgeCopy p tick = ((s.bumpPort p k).bumpSlot tick.sender.toFin m).report .late := by
  simp only [State.judgeCopy, s.attribution_of_named named, judged]

/-- Settles O21: the judgement of the window names the two counters. -/
theorem untimelyCopyDrops : Obligations.UntimelyCopyDrops := by
  intro e p frame s tick body u d c half hh hr named up short sound passes verifies out
  obtain ⟨k, m, judged, hk, hm⟩ := judgeWindow_counters u.config short out
  rw [State.exec_frameReceive frame hh hr up, u.takeFrame_of_passes sound passes, if_pos verifies,
    u.judgeCopy_of_untimely p named judged, ← hk, ← hm]
  obtain ⟨-, counted⟩ := u.bumpBoth_counted p k tick.sender.toFin m
  exact ⟨_, rfl, rfl, counted⟩

/-- A copy that is in time, or comes in LISTEN, goes on to the duplicate check (R41 to R43). -/
theorem State.judgeCopy_of_timely (p : PortId) (tick : Tick) (short : s.config.closeQns * 2 < s.config.roundQns)
    (timely : s.steer.nodeState = .listen ∨
      (-(s.config.closeQns : Int) ≤ fromNamedBoundary s.config tick.round s.clock.reading ∧
      fromNamedBoundary s.config tick.round s.clock.reading < s.config.closeQns)) :
    s.judgeCopy p tick = s.placeCopy p tick (if s.steer.nodeState = .listen then .nextClose else .named)
      (if s.steer.nodeState = .listen then roundOfClose s.config (nextClose s.config s.clock.reading) else tick.round) := by
  by_cases listen : s.steer.nodeState = .listen
  · simp only [State.judgeCopy, s.attribution_of_listen listen, Judgement.counters, if_pos listen]
  · obtain ⟨low, high⟩ := timely.resolve_left listen
    simp only [State.judgeCopy, s.attribution_of_named listen, judgeWindow_inTime s.config short low high, Judgement.counters,
      if_neg listen]

/-- The slot holds a copy of the round on the port (R43). -/
theorem Slot.holds_iff (x : Slot) (p : PortId) (round : BitVec 32) :
    x.holds p round = true ↔ ∃ c, x.current.get p = some c ∧ c.attributed = round := by
  simp [Slot.holds, Option.any_eq_true]

/-- Settles O24: a timely copy comes to the duplicate check and ends there. -/
theorem duplicateCopyDrops : Obligations.DuplicateCopyDrops := by
  intro e p frame s tick body c u listen round i hh hr up sound passes verifies short timely held same
  have holds : u.slots[i].holds p round = true := (Slot.holds_iff _ _ _).mpr ⟨c, held, same⟩
  have dropped : u.judgeCopy p tick = (u.bumpPort p .rxDuplicate).bumpSlot i .duplicate :=
    (u.judgeCopy_of_timely p tick short timely).trans (if_pos holds)
  rw [State.exec_frameReceive frame hh hr up, u.takeFrame_of_passes sound passes, if_pos verifies, dropped]
  exact ⟨_, rfl, u.bumpBoth_counted p .rxDuplicate i .duplicate⟩

end Sys2Proof.Machine
end

section
/-! SUPPORT. Acceptance of a copy: its echo, its delay sample and gate, its estimate, and what its slot and its port count
(R44 to R55, R66). -/

namespace Sys2Proof.Machine

/-! ## The delay outcome and the sample (R50, R51) -/

section Delay

variable {c : ConfigRecord} {h : List HistoryEntry} {x : Copy} {b : Echo} {entry : HistoryEntry}

theorem delayOf_of_noEcho (own : x.ownEcho = none) : delayOf c h x = (.noEcho, none) := by simp only [delayOf, own]

theorem delayOf_of_stepped (own : x.ownEcho = some b) (stepped : x.stepped = true) : delayOf c h x = (.stepped, none) := by
  simp only [delayOf, own, stepped, if_true]

theorem delayOf_of_missing (own : x.ownEcho = some b) (stepped : x.stepped = false) (found : searchHistory h b.round16 = none) :
    delayOf c h x = (.missing, none) := by
  simp [delayOf, own, stepped, found]

theorem delayOf_of_invalid (own : x.ownEcho = some b) (stepped : x.stepped = false)
    (found : searchHistory h b.round16 = some entry) (valid : entry.valid = false) : delayOf c h x = (.invalidated, none) := by
  simp [delayOf, own, stepped, found, valid]

/-- The seconds of t2 are those, at most 255 before the tick's, that end in the echoed eight bits (R51). -/
theorem echo_seconds_eq {tx sec : BitVec 40} {low : BitVec 8} (ends : sec.setWidth 8 = low) (near : (tx - sec).toNat < 256) :
    tx - ((tx - low.setWidth 40) &&& 255#40) = sec := by
  subst ends
  have back : (tx - (sec.setWidth 8).setWidth 40) &&& 255#40 = tx - sec := by
    apply BitVec.eq_of_toNat_eq
    have mask : (255#40).toNat = 2 ^ 8 - 1 := rfl
    rw [BitVec.toNat_and, mask, Nat.and_two_pow_sub_one_eq_mod]
    simp only [BitVec.toNat_sub, BitVec.toNat_setWidth] at near ⊢
    omega
  rw [back]
  exact sub_sub_cancel tx sec

/-- A raw sample is taken, taken as 0, or discarded by its size (R51). -/
theorem delayOf_of_valid (own : x.ownEcho = some b) (stepped : x.stepped = false)
    (found : searchHistory h b.round16 = some entry) (valid : entry.valid = true) {sec : BitVec 40}
    (ends : sec.setWidth 8 = b.seconds) (near : (x.tx.seconds - sec).toNat < 256) :
    let t2 := WireStamp.toTimestamp { seconds := sec, nanos := b.nanos, quarter := b.quarter }
    let raw := halfEven (x.ingress.diff entry.tx - x.tx.toTimestamp.diff t2) 2
    let limit : Int := c.maxDelay * 4000
    (raw < 0 → delayOf c h x = (.clamped, some 0)) ∧ (limit < raw → delayOf c h x = (.overMax, none)) ∧
      (0 ≤ raw → raw ≤ limit → delayOf c h x = (.added, some raw.toNat)) := by
  intro t2 raw limit
  have stamp : b.stamp x.tx.seconds = t2 := by rw [Echo.stamp, echo_seconds_eq ends near]
  have limit_eq : (c.maxDelayQns : Int) = limit := Int.natCast_mul _ _
  have judged : delayOf c h x = if raw < 0 then (.clamped, some 0) else if limit < raw then (.overMax, none)
      else (.added, some raw.toNat) := by
    simp [delayOf, own, stepped, found, valid, rawDelay, stamp, limit_eq, raw]
  have positive : 0 ≤ limit := limit_eq ▸ Int.natCast_nonneg _
  rw [judged]
  refine ⟨fun negative => if_pos negative, fun large => ?_, fun low high => ?_⟩
  · rw [if_neg (by omega), if_pos large]
  · rw [if_neg (by omega), if_neg (by omega)]

end Delay

/-! ## The copy after its echo (R52, R54, R55) -/

section Process

variable (x : Copy) (c : ConfigRecord) (st : NodeState) (h : List HistoryEntry) (w : List Sample)

theorem Copy.withEstimate_eq (v : Int) : x.withEstimate st v = { x with
    estimate := (x.withEstimate st v).estimate, bounded := (x.withEstimate st v).bounded } := by
  unfold Copy.withEstimate
  split <;> rfl

@[simp] theorem Copy.withEstimate_congested (v : Int) : (x.withEstimate st v).congested = x.congested := by
  rw [x.withEstimate_eq st v]

/-- An estimate stands within the offset bound, which does not hold in LISTEN, and is lost beyond it (R55). -/
theorem Copy.withEstimate_spec (v : Int) :
    ((st = .listen ∨ |v| ≤ 4194304) → (x.withEstimate st v).estimate = some v ∧ (x.withEstimate st v).bounded = x.bounded) ∧
      (¬st = .listen → 4194304 < |v| → (x.withEstimate st v).estimate = none ∧ (x.withEstimate st v).bounded = true) := by
  unfold Copy.withEstimate
  constructor
  · intro fits
    have kept : ¬outOfBound st v = true := by
      rw [outOfBound_iff]
      rintro ⟨listen, large⟩
      exact large.not_ge (fits.resolve_left listen)
    rw [if_neg kept]
    exact ⟨rfl, rfl⟩
  · intro listen large
    rw [if_pos ((outOfBound_iff st v).mpr ⟨listen, large⟩)]
    exact ⟨rfl, rfl⟩

/-- The echo sets the outcome, the check and the gate of a copy; then the filtered delay, where there is one, gives the
estimate. -/
theorem Copy.process_cases : let r := x.process c st h w
    ∃ gate, let y : Copy := { x with outcome := (delayOf c h x).1, checked := (delayOf c h x).2.isSome, congested := gate }
      filteredDelay r.2 = none ∧ r.1 = y ∨ ∃ d, filteredDelay r.2 = some d ∧ r.1 = y.withEstimate st (x.fullWidth d) := by
  simp only [Copy.process]
  split
  · next absent => exact ⟨_, .inl ⟨absent, rfl⟩⟩
  · next d delay => exact ⟨_, .inr ⟨d, delay, rfl⟩⟩

/-- Echo processing sets the outcome, the check, the gate and the estimate, nothing else. -/
theorem Copy.process_copy : (x.process c st h w).1 = { x with
    outcome := (delayOf c h x).1, checked := (delayOf c h x).2.isSome
    congested := (x.process c st h w).1.congested, estimate := (x.process c st h w).1.estimate
    bounded := (x.process c st h w).1.bounded } := by
  obtain ⟨gate, ⟨-, e⟩ | ⟨d, -, e⟩⟩ := x.process_cases c st h w <;> rw [e]
  rw [Copy.withEstimate_eq]

/-- A copy without a sample leaves the window as it is, and passes the gate. -/
theorem Copy.process_of_noSample (absent : (delayOf c h x).2 = none) :
    (x.process c st h w).2 = w ∧ (x.process c st h w).1.congested = false := by
  simp only [Copy.process, absent]
  split <;> simp

/-- A sample joins the window, and the gate compares it with the filtered delay before it (R52, R54). -/
theorem Copy.process_of_sample {v : Nat} (sample : (delayOf c h x).2 = some v) :
    (x.process c st h w).2 = joinWindow w { round := x.attributed, value := v, age := none, closed := false } ∧
      (x.process c st h w).1.congested = congestedBy c (filteredDelay w) v := by
  simp only [Copy.process, sample]
  split <;> simp

/-- Without a filtered delay the copy has no estimate (R55). -/
theorem Copy.process_of_noDelay (absent : filteredDelay (x.process c st h w).2 = none) :
    (x.process c st h w).1.estimate = x.estimate ∧ (x.process c st h w).1.bounded = x.bounded := by
  obtain ⟨gate, ⟨-, e⟩ | ⟨d, delay, -⟩⟩ := x.process_cases c st h w
  · rw [e]
    exact ⟨rfl, rfl⟩
  · cases absent.symm.trans delay

/-- The estimate for a filtered delay (R55). -/
theorem Copy.process_of_delay {d : Nat} (delay : filteredDelay (x.process c st h w).2 = some d) :
    ((st = .listen ∨ |x.fullWidth d| ≤ 4194304) → (x.process c st h w).1.estimate = some (x.fullWidth d) ∧
        (x.process c st h w).1.bounded = x.bounded) ∧
      (¬st = .listen → 4194304 < |x.fullWidth d| →
        (x.process c st h w).1.estimate = none ∧ (x.process c st h w).1.bounded = true) := by
  obtain ⟨gate, ⟨absent, -⟩ | ⟨d', delay', e⟩⟩ := x.process_cases c st h w
  · cases absent.symm.trans delay
  · obtain rfl : d' = d := Option.some.inj (delay'.symm.trans delay)
    rw [e]
    exact Copy.withEstimate_spec _ st _

theorem congestedBy_iff (c : ConfigRecord) (d : Option Nat) (v : Nat) :
    congestedBy c d v = true ↔ ∃ m, d = some m ∧ m + 4 * c.congestion < v := by
  cases d <;> simp [congestedBy]

end Process

/-! ## The slot and the port that accept (R44, R48, R49, R66) -/

/-- `y` counts once, against `x`, in the counters where `P` holds, and in no other. -/
def Slot.CountsWhere (x y : Slot) (P : Fin 10 → Prop) : Prop :=
  ∀ k, (P k → y.counters[k] = min 65535 (x.counters[k] + 1)) ∧ (¬P k → y.counters[k] = x.counters[k])

theorem Slot.CountsWhere.bump (x : Slot) (c : SlotCounter) : x.CountsWhere (x.bump c) fun k => k = c.index := by
  intro k
  rw [(x.bump_counted c).2 k]
  exact ⟨fun e => if_pos (congrArg Fin.val e), fun e => if_neg fun h => e (Fin.ext h)⟩

/-- A counter that has not counted yet joins those that count. -/
theorem Slot.CountsWhere.bumpIf {x y : Slot} {P : Fin 10 → Prop} (h : x.CountsWhere y P) (b : Bool) (c : SlotCounter)
    (fresh : ¬P c.index) : x.CountsWhere (y.bumpIf b c) fun k => P k ∨ (k = c.index ∧ b = true) := by
  intro k
  rw [Slot.bumpIf_counters]
  by_cases hk : b = true ∧ k = c.index
  · obtain ⟨hb, rfl⟩ := hk
    simp [hb, (h c.index).2 fresh]
  · rw [if_neg hk]
    exact ⟨fun e => (h k).1 (e.resolve_right fun ⟨e, hb⟩ => hk ⟨hb, e⟩), fun e => (h k).2 fun hp => e (.inl hp)⟩

/-- Liveness on acceptance by the sample that joined and the windows after it (R49). -/
theorem Liveness.onAccept_eq (l : Liveness) (sample : Option Nat) (w : Pair (List Sample)) :
    l.onAccept sample.isSome (!w.a.isEmpty || !w.b.isEmpty) =
      match l with
      | .vacant | .silent => if w.a = [] ∧ w.b = [] then .heard else .active
      | .heard => if sample = none then .heard else .active
      | .active => .active := by
  have nonempty : (!w.a.isEmpty || !w.b.isEmpty) = !decide (w.a = [] ∧ w.b = []) := by
    rw [Bool.eq_iff_iff]
    simp only [Bool.or_eq_true, Bool.not_eq_true', List.isEmpty_eq_false_iff, decide_eq_false_iff_not]
    tauto
  rw [nonempty]
  cases l with
  | vacant | silent => by_cases empty : w.a = [] ∧ w.b = [] <;> simp [Liveness.onAccept, empty]
  | heard => cases sample <;> rfl
  | active => rfl

theorem acceptedCounter_index (p : PortId) : (acceptedCounter p).index = if p = .a then 0 else 1 := by cases p <;> rfl

theorem DelayOutcome.discards_iff (o : DelayOutcome) :
    o.discards = true ↔ o = .stepped ∨ o = .missing ∨ o = .invalidated ∨ o = .overMax := by
  cases o <;> simp [DelayOutcome.discards]

/-- What an accepted copy counts: itself, and what became of its sample and its estimate (R66). -/
theorem Slot.accept_counts (x : Slot) (c : ConfigRecord) (st : NodeState) (h : List HistoryEntry) (p : PortId) (copy : Copy) :
    let r := (copy.process c st h (x.windows.get p)).1
    x.CountsWhere (x.accept c st h p copy) fun k =>
      ((((k = (acceptedCounter p).index ∨ k = 6 ∧ r.outcome.discards = true) ∨ k = 7 ∧ decide (r.outcome = .clamped) = true) ∨
        k = 8 ∧ r.congested = true) ∨ k = 9 ∧ r.bounded = true) := by
  have once (x : Slot) := Slot.CountsWhere.bump x (acceptedCounter p)
  refine ((((once _).bumpIf _ .discarded ?_).bumpIf _ .negative ?_).bumpIf _ .congested ?_).bumpIf _ .outOfRange ?_ <;>
    cases p <;> simp [SlotCounter.index, acceptedCounter]

/-- An accepted copy takes its place, and moves its window and the liveness, and counters (R48, R49). -/
theorem Slot.accept_spec (x : Slot) (c : ConfigRecord) (st : NodeState) (h : List HistoryEntry) (p : PortId) (copy : Copy) :
    let r := copy.process c st h (x.windows.get p)
    let y := x.accept c st h p copy
    y = { x with
      current := x.current.set (some r.1) p, liveness := y.liveness, windows := x.windows.set (y.windows.get p) p
      counters := y.counters } ∧
    y.windows.get p = r.2 ∧
    y.liveness = x.liveness.onAccept r.1.checked (!y.windows.a.isEmpty || !y.windows.b.isEmpty) := by
  intro r y
  have windows : y.windows = x.windows.set r.2 p := by simp [y, r, Slot.accept]
  have window : y.windows.get p = r.2 := by rw [windows, Pair.get_set_same]
  refine ⟨?_, window, ?_⟩
  · rw [window]
    simp only [y, r, Slot.accept]
    rw [Slot.bumpIf_eq]
    simp
  · rw [windows]
    simp [y, r, Slot.accept]

/-- The port counts the copy, and one that names the other port (R26, R44). -/
theorem State.countAccepted_spec (s : State) (p named : PortId) :
    let t := (if named = p then s else s.bumpPort p .rxCrossed).bumpPort p .rxAccepted
    t = { s with ports := t.ports } ∧ (∀ q, q ≠ p → t.ports.get q = s.ports.get q) ∧
    t.ports.get p = { s.ports.get p with counters := (t.ports.get p).counters } ∧
    ∀ k : Fin 16, (t.ports.get p).counters[k] =
      if k = 15 ∨ (k = 14 ∧ named ≠ p) then min 65535 ((s.ports.get p).counters[k] + 1)
      else (s.ports.get p).counters[k] := by
  by_cases own : named = p
  · rw [if_pos own]
    obtain ⟨⟨port, counted⟩, others⟩ := s.bumpPort_counted p .rxAccepted
    refine ⟨rfl, others, port, fun k => ?_⟩
    rw [counted k]
    simp [PortCounter.index, own, Fin.ext_iff]
  · rw [if_neg own]
    obtain ⟨⟨port, counted⟩, others⟩ := s.bumpPort_counted p .rxCrossed
    obtain ⟨⟨port', counted'⟩, others'⟩ := (s.bumpPort p .rxCrossed).bumpPort_counted p .rxAccepted
    refine ⟨rfl, fun q hq => (others' q hq).trans (others q hq), by rw [port', port], fun k => ?_⟩
    rw [counted' k, counted k]
    by_cases crossed : k = 14
    · simp [PortCounter.index, own, crossed]
    · have crossed' : k.val ≠ 14 := fun e => crossed (Fin.ext e)
      simp [PortCounter.index, own, crossed', Fin.ext_iff]

/-- Acceptance moves the sender's slot and counters of the port (R44, R48). -/
theorem State.acceptCopy_spec (s : State) (p : PortId) (tick : Tick) (kind : Attribution) (round : BitVec 32) :
    let t := s.acceptCopy p tick kind round
    t = { s with ports := t.ports, slots := t.slots } ∧
    t.slots[tick.sender.toFin] = s.slots[tick.sender.toFin].accept s.config s.steer.nodeState (s.ports.get p).history p
      (s.copyOf tick kind round) ∧
    (∀ j : Fin 16, j ≠ tick.sender.toFin → t.slots[j] = s.slots[j]) ∧
    t.ports = ((if tick.port = p then s else s.bumpPort p .rxCrossed).bumpPort p .rxAccepted).ports := by
  intro t
  obtain ⟨frame, -⟩ := s.countAccepted_spec p tick.port
  have slots : t.slots = vmodify s.slots tick.sender.toFin fun x =>
      x.accept s.config s.steer.nodeState (s.ports.get p).history p (s.copyOf tick kind round) := by
    simp only [t, State.acceptCopy, State.modifySlot]
    rw [frame]
    rfl
  refine ⟨?_, ?_, fun j hj => ?_, rfl⟩
  · simp only [t, State.acceptCopy, State.modifySlot]
    rw [frame]
    rfl
  · rw [slots]
    exact vmodify_get_same _ _ _
  · rw [slots]
    exact vmodify_get_ne _ _ _ j.isLt fun e => hj (Fin.ext e)

/-- Settles O23: a timely copy passes the duplicate check; then the port, the slot and the copy by their own lemmas. -/
theorem timelyCopyIsAccepted : Obligations.TimelyCopyIsAccepted := by
  intro e p frame s tick body u listen round i x hh hr up sound passes verifies short timely fresh
  have free : ¬u.slots[i].holds p round = true := fun holds => by
    obtain ⟨c, held, same⟩ := (Slot.holds_iff _ _ _).mp holds
    exact fresh c held same
  have accepted : u.judgeCopy p tick = u.acceptCopy p tick (if listen then .nextClose else .named) round :=
    (u.judgeCopy_of_timely p tick short timely).trans (if_neg free)
  rw [State.exec_frameReceive frame hh hr up, u.takeFrame_of_passes sound passes, if_pos verifies, accepted]
  obtain ⟨frame, slot, slots, ports⟩ := u.acceptCopy_spec p tick (if listen then .nextClose else .named) round
  obtain ⟨-, otherPort, port, counters⟩ := u.countAccepted_spec p tick.port
  rw [← ports] at otherPort port counters
  let copy := u.copyOf tick (if listen then .nextClose else .named) round
  let h := (u.ports.get p).history
  let r := copy.process u.config u.steer.nodeState h (x.windows.get p)
  have counts := x.accept_counts u.config u.steer.nodeState h p copy
  obtain ⟨accept, window, liveness⟩ := x.accept_spec u.config u.steer.nodeState h p copy
  rw [← slot] at accept window liveness counts
  have same := copy.process_copy u.config u.steer.nodeState h (x.windows.get p)
  have outcome : r.1.outcome = (delayOf u.config h copy).1 := congrArg Copy.outcome same
  have checked : r.1.checked = (delayOf u.config h copy).2.isSome := congrArg Copy.checked same
  refine ⟨_, r.1, (delayOf u.config h copy).2, rfl, frame, accept, congrArg Copy.attributed same, congrArg Copy.roundField same,
    congrArg Copy.kind same, congrArg Copy.ingress same, congrArg Copy.ingressStep same, congrArg Copy.tx same,
    congrArg Copy.status same, congrArg Copy.stepped same, congrArg Copy.ownEcho same, ?table, ?noSample, ?sample,
    ?noDelay, ?delay, ?liveness, ?counters, slots, otherPort, port, counters⟩
  case table =>
    have echo : r.1.ownEcho = copy.ownEcho := (congrArg Copy.ownEcho same :)
    rw [outcome, echo]
    cases own : copy.ownEcho with
    | none => exact Prod.ext_iff.mp (delayOf_of_noEcho own)
    | some b =>
      refine ⟨fun stepped => Prod.ext_iff.mp (delayOf_of_stepped own stepped), fun stepped => ?_⟩
      split
      · next missing => exact Prod.ext_iff.mp (delayOf_of_missing own stepped missing)
      · next entry found =>
        refine ⟨fun invalid => Prod.ext_iff.mp (delayOf_of_invalid own stepped found invalid), fun valid sec ends near => ?_⟩
        obtain ⟨clamped, overMax, added⟩ := delayOf_of_valid (c := u.config) own stepped found valid ends near
        exact ⟨fun negative => Prod.ext_iff.mp (clamped negative), fun large => Prod.ext_iff.mp (overMax large),
          fun low high => Prod.ext_iff.mp (added low high)⟩
  case noSample =>
    intro absent
    obtain ⟨kept, congested⟩ := copy.process_of_noSample u.config u.steer.nodeState h (x.windows.get p) absent
    exact ⟨window.trans kept, by rw [checked, absent, Option.isSome_none], congested⟩
  case sample =>
    intro v joined
    obtain ⟨kept, congested⟩ := copy.process_of_sample u.config u.steer.nodeState h (x.windows.get p) joined
    exact ⟨by rw [checked, joined, Option.isSome_some], window.trans kept, by rw [congested, congestedBy_iff]⟩
  case noDelay =>
    intro absent
    rw [window] at absent
    exact copy.process_of_noDelay u.config u.steer.nodeState h (x.windows.get p) absent
  case delay =>
    intro d delay
    rw [window] at delay
    exact copy.process_of_delay u.config u.steer.nodeState h (x.windows.get p) delay
  case liveness =>
    rw [liveness, checked]
    exact Liveness.onAccept_eq _ _ _
  case counters =>
    intro k
    obtain ⟨counted, kept⟩ := counts k
    simp only [acceptedCounter_index, DelayOutcome.discards_iff, decide_eq_true_eq, or_assoc] at counted kept
    exact (em _).elim (fun hit => (counted hit).trans (if_pos hit).symm) fun miss => (kept miss).trans (if_neg miss).symm

end Sys2Proof.Machine
end

section
/-! SUPPORT. The named boundary of a round number (R41), and the first instants of a grid of rounds or seconds after a reading
(R31, R42, R71, R133, R149). -/

namespace Sys2Proof.Machine

/-! ## Round periods and close delays (Table 10-4) -/

/-- A whole number of times 2^32 round periods fills the range of a reading, so that the round numbers wrap with it (R5). -/
theorem ConfigRecord.roundQns_divides (c : ConfigRecord) : ∃ q, timestampCount = q * 2 ^ 32 * c.roundQns := by
  have code : c.roundCode.toNat < 4 := c.roundCode.isLt
  unfold ConfigRecord.roundQns ConfigRecord.roundMs
  interval_cases c.roundCode.toNat
  · exact ⟨2048, by decide⟩
  · exact ⟨1024, by decide⟩
  · exact ⟨512, by decide⟩
  · exact ⟨256, by decide⟩

theorem ConfigRecord.roundQns_ge (c : ConfigRecord) : 500000000 ≤ c.roundQns := by
  have positive : 1 ≤ 2 ^ c.roundCode.toNat := Nat.one_le_two_pow
  show 500000000 ≤ 125 * 2 ^ c.roundCode.toNat * 4000000
  omega

theorem ConfigRecord.closeQns_le (c : ConfigRecord) : c.closeQns ≤ 32000000 := by
  have code : 2 ^ c.closeCode.toNat ≤ 2 ^ 3 := Nat.pow_le_pow_right (by decide) (Nat.le_of_lt_succ c.closeCode.isLt)
  show 2 ^ c.closeCode.toNat * 4000000 ≤ 32000000
  omega

theorem stagger_lt (c : ConfigRecord) (id : Fin 16) : stagger id < c.roundQns := by
  have period := c.roundQns_ge
  have staggered : stagger id = id.val * 128000 := rfl
  omega

/-! ## The first instant of a grid -/

/-- The number of the first instant `n T + a` after a reading. -/
def firstAfter (period a now : Nat) : Nat := if now < a then 0 else (now - a) / period + 1

/-- The number of the first instant `n T + a` at or after a reading. -/
def firstFrom (period a now : Nat) : Nat := if now ≤ a then 0 else ceilDiv (now - a) period

theorem firstAfter_spec {period : Nat} (positive : 0 < period) (a now : Nat) :
    now < firstAfter period a now * period + a ∧ ∀ k, now < k * period + a → firstAfter period a now ≤ k := by
  by_cases early : now < a
  · rw [firstAfter, if_pos early]
    exact ⟨by omega, fun k _ => Nat.zero_le k⟩
  · rw [firstAfter, if_neg early]
    have reach : now - a < ((now - a) / period + 1) * period := (Nat.div_lt_iff_lt_mul positive).mp (Nat.lt_succ_self _)
    exact ⟨by omega, fun k hk => (Nat.div_lt_iff_lt_mul positive).mpr (by omega)⟩

theorem ceilDiv_le_iff {b : Nat} (positive : 0 < b) (a k : Nat) : ceilDiv a b ≤ k ↔ a ≤ k * b := by
  rw [ceilDiv, ← Nat.lt_succ_iff, Nat.div_lt_iff_lt_mul positive, Nat.succ_mul]
  omega

theorem firstFrom_spec {period : Nat} (positive : 0 < period) (a now : Nat) :
    now ≤ firstFrom period a now * period + a ∧ ∀ k, now ≤ k * period + a → firstFrom period a now ≤ k := by
  by_cases early : now ≤ a
  · rw [firstFrom, if_pos early]
    exact ⟨by omega, fun k _ => Nat.zero_le k⟩
  · rw [firstFrom, if_neg early]
    have reach := (ceilDiv_le_iff positive (now - a) (ceilDiv (now - a) period)).mp le_rfl
    exact ⟨by omega, fun k hk => (ceilDiv_le_iff positive _ _).mpr (by omega)⟩

/-- The round of an instant on the grid, also where the seconds wrap before it (R5). -/
theorem roundOf_instant {period a n q : Nat} (count : timestampCount = q * 2 ^ 32 * period) (offset : a < period)
    (wraps : n ≤ q * 2 ^ 32) :
    BitVec.ofNat 32 (((Timestamp.ofInt (n * period + a : Nat)).qns.val - a) / period) = BitVec.ofNat 32 n := by
  have positive : 0 < period := by omega
  have reading : (Timestamp.ofInt (n * period + a : Nat)).qns.val = (n * period + a) % timestampCount := by
    have value := Timestamp.ofInt_val (n * period + a : Nat)
    exact_mod_cast value
  rw [reading]
  rcases wraps.lt_or_eq with before | wrapped
  · have next : (n + 1) * period ≤ timestampCount := count ▸ Nat.mul_le_mul_right period before
    rw [Nat.succ_mul] at next
    rw [Nat.mod_eq_of_lt (by omega), Nat.add_sub_cancel, Nat.mul_div_cancel _ positive]
  · have rounds : 0 < q * 2 ^ 32 := Nat.pos_of_mul_pos_right (count ▸ (by decide : 0 < timestampCount))
    have small : a < timestampCount := offset.trans_le (count ▸ Nat.le_mul_of_pos_left period rounds)
    rw [wrapped, ← count, Nat.add_mod_left, Nat.mod_eq_of_lt small, Nat.sub_self, Nat.zero_div]
    apply BitVec.eq_of_toNat_eq
    simp

/-! ## The instants named from a reading -/

/-- The own time from the named boundary of a round number (R41). -/
theorem fromNamedBoundary_spec (cfg : ConfigRecord) (r : BitVec 32) (stamp : Timestamp) :
    let span : Int := (2 ^ 32 * cfg.roundQns : Nat)
    let d := fromNamedBoundary cfg r stamp
    (∃ k : Int, (stamp.qns.val : Int) = r.toNat * cfg.roundQns + k * span + d) ∧ -span ≤ 2 * d ∧ 2 * d ≤ span := by
  intro span d
  let x : Int := (stamp.qns.val : Int) - (r.toNat * cfg.roundQns : Nat) + span / 2
  have positive : 0 < span := by
    have period := cfg.roundQns_ge
    simp only [span]
    omega
  have away : d = x % span - span / 2 := rfl
  have low := Int.emod_nonneg x positive.ne'
  have high := Int.emod_lt_of_pos x positive
  have parts := Int.emod_add_mul_ediv x span
  refine ⟨⟨x / span, ?_⟩, by omega, by omega⟩
  rw [← Int.natCast_mul, Int.mul_comm (x / span) span]
  simp only [x] at parts away ⊢
  omega

theorem Timestamp.ofInt_plus (z q : Int) : (Timestamp.ofInt z).plus q = Timestamp.ofInt (z + q) := by
  rw [Timestamp.plus, Timestamp.ofInt_val]
  apply Timestamp.ofInt_congr
  rw [Int.emod_add_emod]

theorem nextClose_eq (cfg : ConfigRecord) (t : Timestamp) : nextClose cfg t =
    Timestamp.ofInt (firstAfter cfg.roundQns cfg.closeQns t.qns.val * cfg.roundQns + cfg.closeQns : Nat) := by
  unfold nextClose firstAfter
  split <;> simp

theorem nextTransmit_eq (cfg : ConfigRecord) (id : Fin 16) (t : Timestamp) : nextTransmit cfg id t =
    Timestamp.ofInt (firstFrom cfg.roundQns (stagger id) t.qns.val * cfg.roundQns + stagger id : Nat) := by
  unfold nextTransmit firstFrom
  split <;> simp

theorem nextTop_eq (t : Timestamp) :
    nextTop t = Timestamp.ofInt (firstAfter 4000000000 0 t.qns.val * 4000000000 : Nat) := by
  have seconds : t.seconds = t.qns.val / 4000000000 := rfl
  rw [nextTop, Timestamp.secondStart, Timestamp.ofInt_plus, firstAfter, seconds,
    if_neg (Nat.not_lt_zero _)]
  refine congrArg Timestamp.ofInt ?_
  simp only [Config.qnsPerSecond]
  omega

theorem nextHalf_eq (t : Timestamp) :
    nextHalf t = Timestamp.ofInt (firstAfter 4000000000 2000000000 t.qns.val * 4000000000 + 2000000000 : Nat) := by
  have seconds : t.seconds = t.qns.val / 4000000000 := rfl
  have fraction : t.fraction = t.qns.val % 4000000000 := rfl
  rw [nextHalf, nextTop, Timestamp.secondStart, Timestamp.ofInt_plus, Timestamp.ofInt_plus, Timestamp.ofInt_plus, firstAfter,
    seconds, fraction]
  simp only [Config.qnsPerSecond]
  by_cases early : t.qns.val % 4000000000 < 2000000000
  · rw [if_pos early]
    refine congrArg Timestamp.ofInt ?_
    split <;> omega
  · rw [if_neg early]
    refine congrArg Timestamp.ofInt ?_
    split <;> omega

/-- Settles O22: each instant is the first of its grid, and its round the number of that first one. -/
theorem namedBoundaryIsNearest : Obligations.NamedBoundaryIsNearest := by
  intro cfg r stamp id span d now first
  have period := cfg.roundQns_ge
  have top := firstAfter_spec (period := 4000000000) (by decide) 0 now
  have half := firstAfter_spec (period := 4000000000) (by decide) 2000000000 now
  simp only [Nat.add_zero] at top
  have positive : 0 < cfg.roundQns := by omega
  obtain ⟨q, count⟩ := cfg.roundQns_divides
  have inRange : now < q * 2 ^ 32 * cfg.roundQns := count ▸ stamp.qns.isLt
  refine ⟨fromNamedBoundary_spec cfg r stamp, ⟨_, firstAfter_spec positive _ _, nextClose_eq cfg stamp, ?_⟩,
    ⟨_, firstFrom_spec positive _ _, nextTransmit_eq cfg id stamp, ?_⟩,
    ⟨_, top, nextTop_eq stamp⟩, ⟨_, half, nextHalf_eq stamp⟩, ?_⟩
  · have delay := cfg.closeQns_le
    rw [nextClose_eq]
    exact roundOf_instant count (by omega) ((firstAfter_spec positive _ _).2 _ (by omega))
  · rw [nextTransmit_eq]
    exact roundOf_instant count (stagger_lt cfg id) ((firstFrom_spec positive _ _).2 _ (by omega))
  · rintro s rfl rfl
    rfl

end Sys2Proof.Machine
end

section
/-! SUPPORT. The bytes of a tick and of the frame around it: what stands at each place of an encoded tick, and that the decoder
reads it back (R27, R28, R35). -/

namespace Sys2Proof.Machine

/-! ## Words and their bytes -/

theorem word2_bytes2 (w : BitVec 16) (l : List Byte) : word2 (bytes2 w ++ l) 0 = w := by
  show w.extractLsb' 8 8 ++ w.extractLsb' 0 8 = w
  rw [BitVec.extractLsb'_append_extractLsb'_eq_extractLsb' (by rfl), BitVec.extractLsb'_eq_self]

theorem word4_bytes4 (w : BitVec 32) (l : List Byte) : word4 (bytes4 w ++ l) 0 = w := by
  show w.extractLsb' 24 8 ++ w.extractLsb' 16 8 ++ w.extractLsb' 8 8 ++ w.extractLsb' 0 8 = w
  repeat rw [BitVec.extractLsb'_append_extractLsb'_eq_extractLsb' (by rfl)]
  rw [BitVec.extractLsb'_eq_self]

theorem word5_bytes5 (w : BitVec 40) (l : List Byte) : word5 (bytes5 w ++ l) 0 = w := by
  show w.extractLsb' 32 8 ++ w.extractLsb' 24 8 ++ w.extractLsb' 16 8 ++ w.extractLsb' 8 8 ++ w.extractLsb' 0 8 = w
  repeat rw [BitVec.extractLsb'_append_extractLsb'_eq_extractLsb' (by rfl)]
  rw [BitVec.extractLsb'_eq_self]

/-- A byte at a place is one at the front of what stands from a place on. -/
theorem byteAt_add (l : List Byte) (i j : Nat) : byteAt l (i + j) = byteAt (l.drop i) j := by
  simp [byteAt, List.getD_eq_getElem?_getD]

theorem word4_eq_drop (l : List Byte) (i : Nat) : word4 l i = word4 (l.drop i) 0 := by
  simp only [word4, byteAt_add l i, Nat.zero_add, ← byteAt_add l i 0, Nat.add_zero]

/-! ## Codes (Table 2-3) -/

@[simp] theorem SenderState.ofCode_code (x : SenderState) : SenderState.ofCode x.code = some x := by cases x <;> rfl

@[simp] theorem portOfCode_portCode (p : PortId) : portOfCode (portCode p) = p := by cases p <;> rfl

/-! ## Echo entries (R28, R30) -/

/-- An echo entry is read back from its six bytes. -/
theorem Echo.decode_encode (x : Echo) (l : List Byte) : Echo.decode (x.encode ++ l) = x := by
  have head : byteAt (x.encode ++ l) 0 = x.peer ++ x.round16 := rfl
  have stamp : word4 (x.encode ++ l) 1 = x.nanos ++ x.quarter := word4_bytes4 (x.nanos ++ x.quarter) []
  have seconds : byteAt (x.encode ++ l) 5 = x.seconds := rfl
  unfold Echo.decode
  rw [head, stamp, seconds, BitVec.extractLsb'_append_eq_left, BitVec.extractLsb'_append_eq_right,
    BitVec.extractLsb'_append_eq_left, BitVec.extractLsb'_append_eq_right]

/-- The echo entries are read back from their bytes, whatever follows them. -/
theorem decodeEchoes_encode (es : List Echo) (l : List Byte) :
    decodeEchoes es.length ((es.map Echo.encode).flatten ++ l) = es := by
  induction es with
  | nil => rfl
  | cons x es ih =>
    have assoc : ((x :: es).map Echo.encode).flatten ++ l = x.encode ++ ((es.map Echo.encode).flatten ++ l) := by
      rw [List.map_cons, List.flatten_cons, List.append_assoc]
    have rest : (x.encode ++ ((es.map Echo.encode).flatten ++ l)).drop 6 = (es.map Echo.encode).flatten ++ l := rfl
    rw [assoc, List.length_cons, decodeEchoes, Echo.decode_encode, rest, ih]

theorem echoes_length (es : List Echo) : (es.map Echo.encode).flatten.length = 6 * es.length := by
  induction es with
  | nil => rfl
  | cons x es ih =>
    have six : x.encode.length = 6 := rfl
    rw [List.map_cons, List.flatten_cons, List.length_append, ih, six, List.length_cons]
    omega

theorem echoesAscend_of_pairwise : ∀ {es : List Echo}, es.Pairwise (fun x y => x.peer.toNat < y.peer.toNat) →
    echoesAscend es = true
  | [], _ => rfl
  | [_], _ => rfl
  | x :: y :: es, h => by
    obtain ⟨first, rest⟩ := List.pairwise_cons.mp h
    rw [echoesAscend, decide_eq_true (first y List.mem_cons_self), echoesAscend_of_pairwise rest, Bool.and_self]

/-! ## The tick (Table 2-3) -/

section Tick

variable (t : Tick) (tail : List Byte)

theorem Tick.encode_length : t.encode.length = 20 + 6 * t.echoes.length := by
  have parts : t.encode.length = 20 + (t.echoes.map Echo.encode).flatten.length := by
    simp [Tick.encode, bytes2, bytes4, bytes5]
    omega
  rw [parts, echoes_length]

theorem Tick.byte0 : byteAt (t.encode ++ tail) 0 = 1#4 ++ t.sender := rfl

theorem Tick.byte2 : byteAt (t.encode ++ tail) 2 =
    t.period ++ t.status.state.code ++ flag t.status.anchored ++ flag t.status.epochKnown ++ flag t.stepped := rfl

theorem Tick.byte3 : byteAt (t.encode ++ tail) 3 =
    t.status.accuracyClass ++ t.status.anchorClass ++ flag t.status.leapPending := rfl

theorem Tick.byte4 : byteAt (t.encode ++ tail) 4 =
    flag t.status.leapDeletion ++ portCode t.port ++ BitVec.ofNat 4 t.echoes.length ++ 0#2 := rfl

theorem Tick.version_encode : tickVersion (t.encode ++ tail) = 1#4 := by
  rw [tickVersion, t.byte0, BitVec.extractLsb'_append_eq_left]

theorem Tick.stateCode_encode : (byteAt (t.encode ++ tail) 2).extractLsb' 3 3 = t.status.state.code := by
  rw [t.byte2, BitVec.extractLsb'_append_eq_of_le (by decide), BitVec.extractLsb'_append_eq_of_le (by decide),
    BitVec.extractLsb'_append_eq_of_le (by decide)]
  exact BitVec.extractLsb'_append_eq_right

theorem Tick.echoCount_encode (fits : t.echoes.length ≤ 15) : tickEchoCount (t.encode ++ tail) = t.echoes.length := by
  rw [tickEchoCount, t.byte4, BitVec.extractLsb'_append_eq_of_le (by decide)]
  have field : (flag t.status.leapDeletion ++ portCode t.port ++ BitVec.ofNat 4 t.echoes.length).extractLsb' (2 - 2) 4 =
      BitVec.ofNat 4 t.echoes.length := BitVec.extractLsb'_append_eq_right
  rw [field, BitVec.toNat_ofNat]
  omega

/-- The flag bits of an encoded tick. -/
theorem Tick.flags_encode : let l := t.encode ++ tail
    bitAt (byteAt l 2) 2 = t.status.anchored ∧ bitAt (byteAt l 2) 1 = t.status.epochKnown ∧
      bitAt (byteAt l 2) 0 = t.stepped ∧ bitAt (byteAt l 3) 0 = t.status.leapPending ∧
      bitAt (byteAt l 4) 7 = t.status.leapDeletion := by
  simp only [bitAt, t.byte2, t.byte3, t.byte4, BitVec.getLsbD_append, flag]
  simp

/-- Every field is read back from an encoded tick, whatever follows it. -/
theorem Tick.decodeWith_encode (fits : t.echoes.length ≤ 15) : Tick.decodeWith t.status.state (t.encode ++ tail) = t := by
  have sender : (byteAt (t.encode ++ tail) 0).extractLsb' 0 4 = t.sender := BitVec.extractLsb'_append_eq_right
  have period : (byteAt (t.encode ++ tail) 2).extractLsb' 6 2 = t.period := by
    rw [t.byte2, BitVec.extractLsb'_append_eq_of_le (by decide), BitVec.extractLsb'_append_eq_of_le (by decide),
      BitVec.extractLsb'_append_eq_of_le (by decide)]
    exact BitVec.extractLsb'_append_eq_left
  obtain ⟨anchored, epochKnown, stepped, leapPending, leapDeletion⟩ := t.flags_encode tail
  have accuracyClass : (byteAt (t.encode ++ tail) 3).extractLsb' 4 4 = t.status.accuracyClass := by
    rw [t.byte3, BitVec.extractLsb'_append_eq_of_le (by decide)]
    exact BitVec.extractLsb'_append_eq_left
  have anchorClass : (byteAt (t.encode ++ tail) 3).extractLsb' 1 3 = t.status.anchorClass := by
    rw [t.byte3, BitVec.extractLsb'_append_eq_of_le (by decide)]
    exact BitVec.extractLsb'_append_eq_right
  have port : portOfCode ((byteAt (t.encode ++ tail) 4).extractLsb' 6 1) = t.port := by
    rw [t.byte4, BitVec.extractLsb'_append_eq_of_le (by decide), BitVec.extractLsb'_append_eq_of_le (by decide)]
    exact (congrArg portOfCode BitVec.extractLsb'_append_eq_right).trans (portOfCode_portCode t.port)
  have round : word4 (t.encode ++ tail) 5 = t.round := word4_bytes4 t.round []
  have seconds : word5 (t.encode ++ tail) 9 = t.tx.seconds := word5_bytes5 t.tx.seconds []
  have stamp : word4 (t.encode ++ tail) 14 = t.tx.nanos ++ t.tx.quarter := word4_bytes4 (t.tx.nanos ++ t.tx.quarter) []
  have utcOffset : word2 (t.encode ++ tail) 18 = t.status.utcOffset := word2_bytes2 t.status.utcOffset []
  have rest : (t.encode ++ tail).drop 20 = (t.echoes.map Echo.encode).flatten ++ tail := rfl
  unfold Tick.decodeWith
  rw [sender, period, anchored, epochKnown, stepped, accuracyClass, anchorClass, leapPending, leapDeletion, port, round,
    seconds, stamp, utcOffset, t.echoCount_encode tail fits, rest, decodeEchoes_encode, BitVec.extractLsb'_append_eq_left,
    BitVec.extractLsb'_append_eq_right]
  rfl

/-- An encoded tick passes the format checks, with four bytes of check word or more after it. -/
theorem Tick.decode_encode (fits : t.echoes.length ≤ 15)
    (ascend : t.echoes.Pairwise (fun x y => x.peer.toNat < y.peer.toNat)) (check : 4 ≤ tail.length) :
    Tick.decode (t.encode ++ tail) = some t := by
  have long : 24 + 6 * tickEchoCount (t.encode ++ tail) ≤ (t.encode ++ tail).length := by
    rw [t.echoCount_encode tail fits, List.length_append, t.encode_length]
    omega
  rw [Tick.decode, if_pos ⟨t.version_encode tail, long⟩, t.stateCode_encode, SenderState.ofCode_code]
  simp only [t.decodeWith_encode tail fits, echoesAscend_of_pairwise ascend, if_true]

end Tick

/-- Settles O52: check word and padding are the tail after the encoded tick. -/
theorem tickRoundTrip : Obligations.TickRoundTrip := by
  intro t check padding fits ascend
  rw [List.append_assoc]
  exact t.decode_encode _ fits ascend (Nat.le_add_left 4 padding.length)

end Sys2Proof.Machine
end

section
/-! SUPPORT. The frame in which a tick is sent, and the checks of a node that receives it (R27, R35, R39, R40). -/

namespace Sys2Proof.Machine

/-- What stands before the payload of a frame that is sent: the addresses and the type code (R27). -/
def ConfigRecord.frameHeader (c : ConfigRecord) (id : BitVec 4) (p : PortId) : List Byte :=
  bytes6 c.group ++ [0x02#8, 0x00#8, 0x00#8, c.ensemble, id.setWidth 8, (portCode p).setWidth 8] ++ bytes2 c.typeCode

theorem ConfigRecord.frameOf_eq (c : ConfigRecord) (id : BitVec 4) (p : PortId) (payload : List Byte) :
    c.frameOf id p payload =
      c.frameHeader id p ++ padPayload payload ++ frameCheck (c.frameHeader id p ++ padPayload payload) := rfl

/-! ## The frame checks (R27) -/

theorem frameCheck_length (l : List Byte) : (frameCheck l).length = 4 := rfl

theorem padPayload_length (l : List Byte) : (padPayload l).length = max 46 l.length := by
  simp only [padPayload, List.length_append, List.length_replicate]
  omega

/-- A body with its check sequence behind it is sound, its length permitting. -/
theorem frameSound_frameCheck {body : List Byte} (low : 60 ≤ body.length) (high : body.length ≤ 1518) :
    frameSound (body ++ frameCheck body) = true := by
  have length : (body ++ frameCheck body).length = body.length + 4 := by rw [List.length_append, frameCheck_length]
  simp only [frameSound, length, Nat.add_sub_cancel, List.drop_left, List.take_left, decide_true, Bool.and_true,
    Bool.and_eq_true, decide_eq_true_eq]
  omega

/-- Bits of a part of a word are bits of the word. -/
theorem extractLsb'_twice {n : Nat} (x : BitVec n) {a b len len' : Nat} (inside : b + len' ≤ len) :
    (x.extractLsb' a len).extractLsb' b len' = x.extractLsb' (a + b) len' := by
  ext i hi
  have low : b + i < len := by omega
  simp [low, Nat.add_assoc]

section Header

variable (c : ConfigRecord) (id : BitVec 4) (p : PortId) (l : List Byte)

theorem frameDestination_header : frameDestination (c.frameHeader id p ++ l) = c.group := by
  let high := c.group.extractLsb' 32 16
  let low := c.group.extractLsb' 0 32
  show high.extractLsb' 8 8 ++ high.extractLsb' 0 8 ++ low.extractLsb' 24 8 ++ low.extractLsb' 16 8 ++
    (low.extractLsb' 8 8 ++ low.extractLsb' 0 8) = c.group
  simp only [high, low]
  repeat rw [extractLsb'_twice _ (by decide)]
  repeat rw [BitVec.extractLsb'_append_extractLsb'_eq_extractLsb' (by rfl)]
  rw [BitVec.extractLsb'_eq_self]

theorem word2_header : word2 (c.frameHeader id p ++ l) 12 = c.typeCode := word2_bytes2 c.typeCode []

theorem typeOffset_header (untagged : c.typeCode ≠ 0x8100#16) : typeOffset (c.frameHeader id p ++ l) = 12 := by
  rw [typeOffset, word2_header, if_neg untagged]

theorem frameType_header (untagged : c.typeCode ≠ 0x8100#16) : frameType (c.frameHeader id p ++ l) = c.typeCode := by
  rw [frameType, typeOffset_header c id p l untagged, word2_header]

theorem framePayload_header (untagged : c.typeCode ≠ 0x8100#16) (payload check : List Byte) (four : check.length = 4) :
    framePayload (c.frameHeader id p ++ (payload ++ check)) = payload := by
  have length : (c.frameHeader id p ++ (payload ++ check)).length = 14 + payload.length + 4 := by
    rw [List.length_append, List.length_append, four]
    exact (Nat.add_assoc 14 _ _).symm
  have rest : (c.frameHeader id p ++ (payload ++ check)).drop (12 + 2) = payload ++ check := rfl
  have size : 14 + payload.length + 4 - 4 - (12 + 2) = payload.length := by omega
  rw [framePayload, typeOffset_header c id p _ untagged, length, rest, size, List.take_left]

end Header

/-! ## The check word (R35, R40) -/

/-- The check word of a tick verifies, whatever padding follows it. -/
theorem checkVerifies_encode (c : ConfigRecord) (t : Tick) (padding : List Byte) (fits : t.echoes.length ≤ 15) :
    checkVerifies c (t.encode ++ (bytes4 (c.checkWord t.encode) ++ padding)) = true := by
  rw [checkVerifies, protectedBytes, carriedCheck, t.echoCount_encode _ fits, ← t.encode_length, List.take_left, word4_eq_drop,
    List.drop_left, word4_bytes4, decide_eq_true rfl]

/-- Settles O54: the frame checks, the structural checks in their order, and the check word. -/
theorem sentFrameIsValid : Obligations.SentFrameIsValid := by
  intro cfg t own id p untagged fits ascend ensemble period sender other frame
  let check := bytes4 (cfg.checkWord t.encode)
  let padding := List.replicate (46 - (t.encode ++ check).length) 0#8
  let body := t.encode ++ (check ++ padding)
  have padded : padPayload (t.encode ++ check) = body := List.append_assoc _ _ _
  have length : (t.encode ++ check).length = 24 + 6 * t.echoes.length := by
    rw [List.length_append, t.encode_length]
    show 20 + 6 * t.echoes.length + 4 = _
    omega
  have bodyLength : body.length = max 46 (24 + 6 * t.echoes.length) := by rw [← padded, padPayload_length, length]
  have headed : (cfg.frameHeader id p ++ body).length = 14 + body.length := List.length_append
  have sent : frame = cfg.frameHeader id p ++ (body ++ frameCheck (cfg.frameHeader id p ++ body)) := by
    rw [← List.append_assoc, ← padded]
    exact cfg.frameOf_eq id p _
  refine ⟨?_, body, ?_, checkVerifies_encode cfg t padding fits⟩
  · rw [sent, ← List.append_assoc]
    exact frameSound_frameCheck (by omega) (by omega)
  · have destination : frameDestination frame = cfg.group := by rw [sent, frameDestination_header]
    have type : frameType frame = cfg.typeCode := by rw [sent, frameType_header cfg id p _ untagged]
    have payload : framePayload frame = body := by rw [sent, framePayload_header cfg id p untagged body _ (frameCheck_length _)]
    have decoded : Tick.decode body = some t := t.decode_encode _ fits ascend (Nat.le_add_left 4 padding.length)
    simp only [structural, destination, type, payload, decoded, ne_eq, not_true, or_self, if_false]
    rw [checkTick, if_neg (not_not.mpr ensemble), if_neg (not_not.mpr period), if_neg (not_le.mpr sender), if_neg other]

end Sys2Proof.Machine
end

section
/-! SUPPORT. REF selected (R95): every decision leaves it set in ANCHORED, and otherwise at most in ACQUIRE. -/

namespace Sys2Proof.Machine

/-! ## Records that fit (R95) -/

/-- What R95 asks of a record: REF selected is set in ANCHORED, and otherwise at most in ACQUIRE. -/
def Steering.RefFits (x : Steering) : Prop :=
  (x.nodeState = .anchored → x.refSelected = true) ∧ (x.refSelected = true → x.nodeState = .anchored ∨ x.nodeState = .acquire)

theorem State.refSelectedFits_iff (s : State) : s.RefSelectedFits ↔ s.steer.RefFits := Iff.rfl

variable {x y : Steering}

/-- Only the node state and REF selected count. -/
theorem Steering.RefFits.congr (h : x.RefFits) (hn : y.nodeState = x.nodeState) (hr : y.refSelected = x.refSelected) :
    y.RefFits := by
  rw [Steering.RefFits, hn, hr]; exact h

theorem Steering.refFits_of_acquire (hn : x.nodeState = .acquire) : x.RefFits :=
  ⟨fun h => (by rw [hn] at h; cases h), fun _ => .inr hn⟩

theorem Steering.refFits_of_clear (hr : x.refSelected = false) (hn : x.nodeState ≠ .anchored) : x.RefFits :=
  ⟨fun h => absurd h hn, fun h => (by rw [hr] at h; cases h)⟩

/-- In the other states REF selected is clear. -/
theorem Steering.RefFits.clear (h : x.RefFits) (hn : x.nodeState ≠ .anchored) (hn' : x.nodeState ≠ .acquire) :
    x.refSelected = false := by
  rw [← Bool.not_eq_true]
  exact fun hr => (h.2 hr).elim hn hn'

/-! ## Moves (R96) -/

theorem Steering.move_refSelected (x : Steering) (st : NodeState) (selected : Bool) :
    (x.move st selected).refSelected = selected := by
  unfold Steering.move
  by_cases hm : st = x.nodeState ∧ selected = x.refSelected
  · rw [if_pos hm, hm.2]
  · rw [if_neg hm]

theorem Steering.move_acquire_fits (x : Steering) (selected : Bool) : (x.move .acquire selected).RefFits :=
  Steering.refFits_of_acquire (x.move_nodeState _ _)

theorem Steering.move_anchored_fits (x : Steering) : (x.move .anchored true).RefFits :=
  ⟨fun _ => x.move_refSelected _ _, fun _ => .inl (x.move_nodeState _ _)⟩

theorem Steering.move_clear_fits (x : Steering) {st : NodeState} (h : st ≠ .anchored) : (x.move st false).RefFits :=
  Steering.refFits_of_clear (x.move_refSelected _ _) (by rw [x.move_nodeState]; exact h)

/-! ## Decisions (R98 to R110) -/

variable (cfg : ConfigRecord) (r : RoundResult)

theorem Steering.inListen_fits (h : x.RefFits) : (x.inListen r).steer.RefFits := by
  unfold Steering.inListen
  simp only
  split
  · exact h
  · split
    · exact Steering.move_acquire_fits _ _
    · exact h

theorem Steering.inAcquire_fits (h : x.RefFits) : (x.inAcquire cfg r).steer.RefFits := by
  unfold Steering.inAcquire
  split
  · exact h
  · split
    · simp only
      split
      · exact Steering.move_clear_fits _ nofun
      · exact h
    · exact h

theorem Steering.inTrack_fits (h : x.RefFits) (hn : x.nodeState = .track) : (x.inTrack cfg r).steer.RefFits := by
  have clear : x.refSelected = false := h.clear (by rw [hn]; nofun) (by rw [hn]; nofun)
  unfold Steering.inTrack
  split
  · rw [clear]; exact x.move_clear_fits nofun
  · split
    · exact h
    · simp only
      split
      · exact Steering.move_acquire_fits _ _
      · exact h

theorem Steering.inHoldover_fits (h : x.RefFits) (hn : x.nodeState = .holdover) : (x.inHoldover cfg r).steer.RefFits := by
  have clear : x.refSelected = false := h.clear (by rw [hn]; nofun) (by rw [hn]; nofun)
  unfold Steering.inHoldover
  split
  · exact h
  · split
    · rw [clear]; exact x.move_clear_fits nofun
    · exact x.move_acquire_fits _

theorem Steering.inAcquireRef_fits (fresh : Bool) (h : x.RefFits) : (x.inAcquireRef cfg r fresh).steer.RefFits := by
  have corrected (y : Steering) (hy : y.RefFits) : (if y.agreementCount = 8 then y.move .anchored true else y).RefFits := by
    split
    · exact y.move_anchored_fits
    · exact hy
  unfold Steering.inAcquireRef
  simp only
  split
  · cases fresh
    · exact corrected x h
    · exact corrected (x.agree cfg (r.correction.getD 0)) h
  · exact h

theorem Steering.inAnchored_fits (h : x.RefFits) : (x.inAnchored cfg r).steer.RefFits := by
  unfold Steering.inAnchored
  simp only
  split
  · exact h
  · exact x.move_acquire_fits _

theorem Steering.ordinary_fits (fresh : Bool) (h : x.RefFits) : (x.ordinary cfg r fresh).steer.RefFits := by
  unfold Steering.ordinary
  split
  · exact Steering.inListen_fits r h
  · split
    · exact Steering.inAcquireRef_fits cfg r fresh h
    · exact Steering.inAcquire_fits cfg r h
  · next hn => exact Steering.inTrack_fits cfg r h hn
  · next hn => exact Steering.inHoldover_fits cfg r h hn
  · exact Steering.inAnchored_fits cfg r h
  all_goals exact h

/-- A release leaves REF selected clear, and ANCHORED (R110). -/
theorem Steering.release_fits (x : Steering) (range : PeerRange) : (x.release range).steer.RefFits := by
  unfold Steering.release
  split
  · exact x.move_clear_fits (by split <;> nofun)
  · next hn => exact x.move_clear_fits hn

/-- An entry is into ACQUIRE or ANCHORED, with REF selected set (R108). -/
theorem Steering.enter_fits {offset : Option Int} {d : Decision} (h : x.enter cfg r offset = some d) : d.steer.RefFits := by
  unfold Steering.enter at h
  split at h
  case h_1 | h_2 => cases h; exact x.move_acquire_fits _
  case h_3 | h_4 =>
    split at h
    · cases h
    · split at h
      · split at h
        · split at h <;> cases h <;> exact x.move_anchored_fits
        · cases h; exact x.move_anchored_fits
      · cases h; exact x.move_acquire_fits _
  all_goals cases h

/-- The decision of a completion keeps what R95 asks, whichever step of R98 makes it. -/
theorem Steering.decideRound_fits (ref : RefState) (offset : Option Int) (h : x.RefFits) :
    (x.decideRound cfg ref r offset).steer.RefFits := by
  have ordinary := Steering.ordinary_fits cfg r offset.isSome h
  unfold Steering.decideRound
  split
  · unfold Steering.overtaken
    split <;> exact h
  · split
    · exact Steering.move_acquire_fits _ _
    · split
      · split
        · exact ordinary
        · exact x.release_fits _
      · split
        · cases he : x.enter cfg r offset with
          | none => exact ordinary
          | some d => exact Steering.enter_fits cfg r he
        · exact ordinary

/-- A completion keeps what R95 asks: step 5 of R98 and the issue touch neither the node state nor REF selected. -/
theorem State.complete_fits (s : State) (f : Flight) (run : s.running = true) (h : s.steer.RefFits) :
    (s.complete f).steer.RefFits := by
  obtain ⟨b, judged⟩ := s.judged_steer_eq f
  have fits : (s.judged f).steer.RefFits := h.congr (by rw [judged]) (by rw [judged])
  have decided := Steering.decideRound_fits s.config (f.result s.config s.ownId s.round.quiet) (s.judged f).ref.state f.refOffset
    fits
  obtain ⟨e, k, w, finished, -⟩ := Steering.finish_eq (s.judged f).steer s.config (f.result s.config s.ownId s.round.quiet)
    ((s.judged f).steer.decideRound s.config (s.judged f).ref.state
      (f.result s.config s.ownId s.round.quiet) f.refOffset).steer
  have steer : (s.decided f).steer = _ := finished
  obtain ⟨n, v, g, issued⟩ := s.issued_steer f run
  rw [s.complete_steer f, issued, steer]
  exact decided

/-! ## The Reference Unit and STEPs leave REF selected alone (R95) -/

@[simp] theorem Steering.onStep_refSelected (x : Steering) (t : Timestamp) (c : Int) :
    (x.onStep t c).refSelected = x.refSelected := by
  rcases x.onStep_cases t c with ⟨-, -, h⟩ | ⟨-, h⟩ <;> rw [h]

@[simp] theorem State.setRefUnit_refSelected (s : State) (u : RefUnit) :
    (s.setRefUnit u).steer.refSelected = s.steer.refSelected := by
  rw [s.setRefUnit_eq]; rfl

theorem State.applyAnchor_refSelected (s : State) (t : Timestamp) :
    (s.applyAnchor t).steer.refSelected = s.steer.refSelected := by
  unfold State.applyAnchor
  split
  · rfl
  · simp only
    split <;> split <;> simp [Steering.adopt]

theorem State.takePulse_refSelected (s : State) : s.takePulse.steer.refSelected = s.steer.refSelected := by
  unfold State.takePulse
  simp only
  split
  · rw [State.applyAnchor_refSelected]; simp
  · simp

theorem State.takeMiss_refSelected (s : State) : s.takeMiss.steer.refSelected = s.steer.refSelected := by
  unfold State.takeMiss
  split
  · rfl
  · rfl
  all_goals split <;> simp

end Sys2Proof.Machine
end

section
/-! SUPPORT. The own slot VACANT (R46, R69) along the cases of the commands, with what R95 asks of REF selected. -/

namespace Sys2Proof.Machine

variable {u t : State}

/-! ## Slots that stay VACANT (R46, R61) -/

theorem Slot.onStep_liveness (x : Slot) (cfg : ConfigRecord) (st : NodeState) (c : Int) (now : Timestamp) :
    (x.onStep cfg st c now).liveness = x.liveness := by
  rw [x.onStep_eq]

/-- The completion work wakes no VACANT slot (R61). -/
theorem Slot.complete_vacant {x : Slot} (cfg : ConfigRecord) (c : Option Int) (mark : Option Bool) (h : x.liveness = .vacant) :
    (x.complete cfg c mark).liveness = .vacant := by
  have missed : ({ x with lastLane := x.lane } : Slot).countMiss = { x with lastLane := x.lane } := if_pos h
  obtain ⟨b, n, a, judged⟩ := Slot.judge_eq { x with lastLane := x.lane } cfg c mark
  obtain ⟨v, written⟩ := Slot.writeVerdict_eq (({ x with lastLane := x.lane } : Slot).judge cfg c mark) cfg c mark
  simp only [Slot.complete, missed]
  rw [written, judged]
  simp [Slot.ageSamples, h]

/-- The slots of a STEP are as VACANT as before (R56). -/
theorem State.takeStep_liveness (s : State) (c : Int) (i : Fin 16) : (s.takeStep c).slots[i].liveness = s.slots[i].liveness := by
  rw [State.takeStep_slots, Fin.getElem_fin, vmap_get, Slot.onStep_liveness]
  rfl

/-- A completion wakes no VACANT slot. -/
theorem State.complete_vacant (s : State) (f : Flight) (run : s.running = true) (i : Fin 16)
    (h : s.slots[i].liveness = .vacant) : (s.complete f).slots[i].liveness = .vacant := by
  obtain ⟨cfg, c, mark, e⟩ := s.complete_slot f i
  have issued : (s.issued f).slots[i].liveness = .vacant := by
    rcases s.issued_cases f run with ⟨k, -, -, -, -, hs, -, -⟩ | ⟨v, a, -, -, -, hs, -, -, e'⟩
    · rw [hs]; exact h
    · rw [e', State.takeStep_liveness, hs]; exact h
  rw [e]
  exact Slot.complete_vacant cfg c mark issued

/-! ## Received frames (R39, R46) -/

theorem State.bumpSlot_liveness (s : State) (j : Fin 16) (c : SlotCounter) (i : Fin 16) :
    (s.bumpSlot j c).slots[i].liveness = s.slots[i].liveness := by
  have := s.modifySlot_get j (·.bump c) i i.isLt
  simp only [State.bumpSlot, Fin.getElem_fin, this]
  split <;> rfl

/-- A frame that claims the own id passes no structural check (R39). -/
theorem sender_ne_of_passes {cfg : ConfigRecord} {own : BitVec 4} {frame body : List Byte} {tick : Tick}
    (h : structural cfg own frame = .passes tick body) : tick.sender ≠ own := by
  unfold structural at h
  split at h
  · cases h
  · split at h
    · cases h
    · unfold checkTick at h
      split_ifs at h with _ _ _ clash
      cases h
      exact clash

/-- An accepted copy of another node leaves the own slot as it is (R46, R48). -/
theorem State.acceptCopy_own (s : State) (p : PortId) {tick : Tick} (kind : Attribution) (round : BitVec 32)
    (other : tick.sender ≠ s.port.strapId) : (s.acceptCopy p tick kind round).slots[s.ownId] = s.slots[s.ownId] := by
  obtain ⟨ports, -, e⟩ := s.acceptCopy_frame p tick kind round
  have ne : s.ownId ≠ tick.sender.toFin := fun h => other (BitVec.toFin_inj.mp h).symm
  rw [e]
  exact vmodify_get_ne _ _ _ s.ownId.isLt fun h => ne (Fin.ext h)

/-- A copy of another node, in time or not, leaves the own slot's liveness (R41 to R44). -/
theorem State.judgeCopy_own (s : State) (p : PortId) {tick : Tick} (other : tick.sender ≠ s.port.strapId) :
    (s.judgeCopy p tick).slots[s.ownId].liveness = s.slots[s.ownId].liveness := by
  unfold State.judgeCopy
  simp only
  generalize (s.attribution tick.round).2.2.counters = untimely
  cases untimely with
  | none =>
    simp only [State.placeCopy]
    split
    · exact State.bumpSlot_liveness (s.bumpPort p _) _ _ _
    · rw [s.acceptCopy_own p _ _ other]
  | some k => exact State.bumpSlot_liveness (s.bumpPort p _) _ _ _

/-- No frame wakes the own slot (R46). -/
theorem State.takeFrame_own (s : State) (p : PortId) (bytes : List Byte) :
    (s.takeFrame p bytes).slots[s.ownId].liveness = s.slots[s.ownId].liveness := by
  unfold State.takeFrame State.filterFrame
  split
  · split
    · simp
    · next tick body passes =>
      split
      · exact s.judgeCopy_own p (sender_ne_of_passes passes)
      · exact State.bumpSlot_liveness (s.bumpPort p _) _ _ _
  · rfl

/-! ## What keeps both -/

/-- The own slot VACANT and REF selected are kept as `OwnSlotVacant` and `RefSelectedFits` say. -/
def State.KeepsLawful (s t : State) : Prop :=
  (s.OwnSlotVacant → t.OwnSlotVacant) ∧ (s.RefSelectedFits → t.RefSelectedFits)

theorem State.KeepsLawful.refl (s : State) : s.KeepsLawful s := ⟨id, id⟩

theorem State.KeepsLawful.trans {a b c : State} (h : a.KeepsLawful b) (h' : b.KeepsLawful c) : a.KeepsLawful c :=
  ⟨h'.1 ∘ h.1, h'.2 ∘ h.2⟩

/-- Where the straps stay, a node that has not started stays so, and no VACANT slot wakes, the own slot stays VACANT. -/
theorem State.OwnSlotVacant.mono (h : u.OwnSlotVacant) (id : t.port.strapId = u.port.strapId)
    (valid : t.port.strapValid = u.port.strapValid)
    (stopped : u.steer.nodeState.clocked = false → t.steer.nodeState.clocked = false)
    (vacant : ∀ i : Fin 16, u.slots[i].liveness = .vacant → t.slots[i].liveness = .vacant) : t.OwnSlotVacant := by
  obtain ⟨own, unsampled⟩ := h
  have ownId : t.ownId = u.ownId := by simp [State.ownId, id]
  refine ⟨vacant _ (by simpa only [ownId] using own), fun hv => ?_⟩
  obtain ⟨hc, all⟩ := unsampled (by rw [← valid]; exact hv)
  exact ⟨stopped hc, fun i => vacant i (all i)⟩

/-- Once the clock runs the straps have been sampled. -/
theorem State.OwnSlotVacant.sampled (h : u.OwnSlotVacant) (run : u.steer.nodeState.clocked = true) :
    u.port.strapValid ≠ .notSampled := by
  intro hv
  obtain ⟨stopped, -⟩ := h.2 hv
  rw [stopped] at run; cases run

/-- Once the straps are sampled only the own slot counts. -/
theorem State.OwnSlotVacant.of_sampled (h : u.OwnSlotVacant) (sampled : u.port.strapValid ≠ .notSampled)
    (id : t.port.strapId = u.port.strapId) (valid : t.port.strapValid = u.port.strapValid)
    (own : t.slots[u.ownId].liveness = u.slots[u.ownId].liveness) : t.OwnSlotVacant := by
  have ownId : t.ownId = u.ownId := by simp [State.ownId, id]
  refine ⟨?_, fun hv => absurd (valid.symm.trans hv) sampled⟩
  simp only [ownId, own]
  exact h.1

/-- An operation that leaves the straps, the node state, REF selected and every liveness alone. -/
theorem State.KeepsLawful.quiet (id : t.port.strapId = u.port.strapId) (valid : t.port.strapValid = u.port.strapValid)
    (node : t.steer.nodeState = u.steer.nodeState) (ref : t.steer.refSelected = u.steer.refSelected)
    (live : ∀ i : Fin 16, t.slots[i].liveness = u.slots[i].liveness) : u.KeepsLawful t :=
  ⟨fun h => h.mono id valid (fun hc => by rw [node]; exact hc) fun i hi => by rw [live]; exact hi,
    fun h => Steering.RefFits.congr h node ref⟩

theorem NodeState.clocked_of_running {st : NodeState} (h : st.running = true) : st.clocked = true := by
  cases st
  case warmup | config | fault => cases h
  case listen | acquire | track | holdover | anchored => rfl

theorem State.clocked_of_running (h : u.running = true) : u.steer.nodeState.clocked = true :=
  NodeState.clocked_of_running (Bool.and_eq_true_iff.mp h).2

theorem State.RefMoved.keepsLawful (h : u.RefMoved t) (ref : t.steer.refSelected = u.steer.refSelected) : u.KeepsLawful t := by
  obtain ⟨r, x, k, rfl, node, -⟩ := h
  exact .quiet rfl rfl node ref fun _ => rfl

theorem State.CaptureMoved.keepsLawful (h : u.CaptureMoved t) : u.KeepsLawful t := by
  obtain ⟨c, k, rfl, -, -⟩ := h
  exact .quiet rfl rfl rfl rfl fun _ => rfl

theorem State.elapse_keepsLawful (s : State) (e : Elapsed) : s.KeepsLawful (s.elapse e) :=
  .quiet (by simp) (by simp) (by simp) (by simp) fun _ => by simp

/-! ## Events -/

/-- A frame moves ports, slots and flags, and wakes other slots than the own one at most (R46). -/
theorem State.takeFrame_keepsLawful (run : u.running = true) (p : PortId) (bytes : List Byte) :
    u.KeepsLawful (u.takeFrame p bytes) := by
  have fields : (u.takeFrame p bytes).port = u.port ∧ (u.takeFrame p bytes).steer = u.steer := by
    rcases u.takeFrame_cases p bytes with ⟨c, b, k, e⟩ | ⟨c, i, d, b, k, e⟩ | ⟨x, kind, round, e⟩ <;> rw [e]
    · simp
    · simp
    · obtain ⟨ports, -, e'⟩ := u.acceptCopy_frame p x kind round
      rw [e']; exact ⟨rfl, rfl⟩
  obtain ⟨port, steer⟩ := fields
  refine ⟨fun h => h.of_sampled (h.sampled (State.clocked_of_running run)) (by rw [port]) (by rw [port])
    (u.takeFrame_own p bytes), fun h => ?_⟩
  rw [State.refSelectedFits_iff, steer]; exact h

theorem State.complete_keepsLawful (f : Flight) (run : u.running = true) : u.KeepsLawful (u.complete f) := by
  obtain ⟨k, fields, -⟩ := u.complete_fields f
  have port : (u.complete f).port = u.port := by rw [fields, u.issued_frame f run]
  refine ⟨fun h => h.mono (by rw [port]) (by rw [port]) (fun hc => ?_) (u.complete_vacant f run), u.complete_fits f run⟩
  rw [State.clocked_of_running run] at hc; cases hc

/-- A gate end may leave WARMUP for CONFIG, where REF selected is clear as before, or enter FAULT, which clears it (R19, R113). -/
theorem State.takeGate_keepsLawful : u.KeepsLawful u.takeGate := by
  rcases u.takeGate_cases with ⟨m, e⟩ | ⟨warm, m, e⟩ | ⟨run, m, e⟩ <;> rw [e]
  · exact .quiet rfl rfl rfl rfl fun _ => rfl
  · refine ⟨fun h => h.mono rfl rfl (fun _ => rfl) fun _ hi => hi, fun h => ?_⟩
    have clear : u.steer.refSelected = false := Steering.RefFits.clear h (by rw [warm]; nofun) (by rw [warm]; nofun)
    exact Steering.refFits_of_clear clear nofun
  · refine ⟨fun h => h.mono (by simp) (by simp) (fun hc => ?_) (by simp), fun _ => ?_⟩
    · rw [NodeState.clocked_of_running run] at hc; cases hc
    · rw [State.refSelectedFits_iff, State.enterFault_steer]
      exact Steering.refFits_of_clear rfl nofun

/-- The strap sample chooses the own slot while every slot is VACANT (R21, R46). -/
theorem State.takeStraps_keepsLawful (due : u.strapsDue = true) (straps : BitVec 4) : u.KeepsLawful (u.takeStraps straps) := by
  simp only [State.strapsDue, Bool.and_eq_true, decide_eq_true_eq] at due
  obtain ⟨⟨-, unsampled⟩, -⟩ := due
  refine ⟨fun h => ⟨(h.2 unsampled).2 _, fun hv => ?_⟩, id⟩
  simp only [State.takeStraps, State.setPort_port] at hv
  split at hv <;> cases hv

theorem EventTakes.keepsLawful (h : EventTakes u t) : u.KeepsLawful t := by
  cases h with
  | stay => exact .refl u
  | straps due straps => exact State.takeStraps_keepsLawful due straps
  | gate => exact State.takeGate_keepsLawful
  | monitorTop =>
    obtain ⟨m, o, e⟩ := u.takeMonitorTop_cases
    rw [e]; exact .quiet rfl rfl rfl rfl fun _ => rfl
  | linkDrop port receiving =>
    rcases u.dropLink_cases port receiving with e | ⟨b, -, e⟩ <;> rw [e] <;> exact .quiet rfl rfl rfl rfl fun _ => rfl
  | linkUp port =>
    rcases u.raiseLink_cases port with e | ⟨-, e⟩ <;> rw [e] <;> exact .quiet rfl rfl rfl rfl fun _ => rfl
  | transmit | egress | txComplete | anchorExpiry | half | channel | guardExpiry | pin =>
    exact .quiet rfl rfl rfl rfl fun _ => rfl
  | frame run port bytes => exact State.takeFrame_keepsLawful run port bytes
  | close _ tm =>
    obtain ⟨n, r, rd, k, e, -⟩ := u.takeClose_eq tm
    rw [e]
    exact .quiet rfl rfl rfl rfl fun i => by simp only [Fin.getElem_fin, vmap_get]; rfl
  | completion run f => exact State.complete_keepsLawful f run
  | slewEnd =>
    obtain ⟨tm, r, e⟩ := u.settleSlew_eq
    rw [e]; exact .quiet rfl rfl rfl rfl fun _ => rfl
  | pulse =>
    rcases u.takePulse_cases with h | ⟨v, c, ⟨r, x, k, rfl, node, -⟩, e⟩
    · exact h.keepsLawful u.takePulse_refSelected
    · have ref := u.takePulse_refSelected
      rw [e] at ref ⊢
      exact .quiet (by simp) (by simp) (by simpa using node) ref fun i => State.takeStep_liveness _ c i
  | miss => exact u.takeMiss_moved.keepsLawful u.takeMiss_refSelected
  | top _ tm =>
    obtain ⟨n, w, g, c, o, e⟩ := u.takeTop_cases tm
    rw [e]; exact .quiet rfl rfl rfl rfl fun _ => rfl
  | raw _ i level =>
    have pinned : u.KeepsLawful (u.setEventPin i level) := .quiet rfl rfl rfl rfl fun _ => rfl
    exact pinned.trans ((u.setEventPin i level).rawChange_moved i level).keepsLawful
  | filtered _ i => exact (u.takeFiltered_moved i).keepsLawful

theorem Events.keepsLawful {held : List HeldEvent} {s v : State} (h : Events held s v) : s.KeepsLawful v := by
  induction h with
  | nil s => exact .refl s
  | @cons h rest s t v first _ ih => exact ((s.elapse_keepsLawful _).trans first.keepsLawful).trans ih

/-! ## Host commands and reports -/

theorem clearSlots_liveness (selector : BitVec 16) (v : Vector Slot 16) (i : Fin 16) :
    (clearSlots selector v)[i].liveness = v[i].liveness := by
  rw [clearSlots, Fin.getElem_fin, vmapIdx_get]
  split <;> rfl

theorem HostTakes.keepsLawful (h : HostTakes u t) : u.KeepsLawful t := by
  cases h with
  | stay => exact .refl u
  | answer | status | restart => exact .quiet rfl rfl rfl rfl fun _ => rfl
  | capture =>
    unfold State.readFifo
    split <;> exact .quiet rfl rfl rfl rfl fun _ => rfl
  | load _ record =>
    rcases u.loadRecord_cases record with e | ⟨code, data, e⟩ | ⟨-, data, e⟩ <;> rw [e] <;>
      exact .quiet rfl rfl rfl rfl fun _ => rfl
  | clear _ conditions slots => exact .quiet rfl rfl rfl rfl fun i => clearSlots_liveness slots u.slots i
  | anchorTime _ seconds utcOffset flags =>
    rcases u.takeAnchorTime_cases seconds utcOffset flags with ⟨code, e⟩ | e <;> rw [e] <;>
      exact .quiet rfl rfl rfl rfl fun _ => rfl

theorem ReportTakes.keepsLawful (h : ReportTakes u t) : u.KeepsLawful t := by
  cases h with
  | stay => exact .refl u
  | unknown | malformed => exact .quiet rfl rfl rfl rfl fun _ => rfl

/-! ## START and the resets -/

/-- A START is accepted with a valid strap id only (R174). -/
theorem State.valid_of_judgeStart {s : State} (h : s.judgeStart = .accept) : s.port.strapValid = .valid := by
  unfold State.judgeStart at h
  split at h
  · cases h
  · split at h
    · cases h
    · split_ifs at h with invalid
      exact not_not.mp invalid

/-- A START is refused, or begins with a valid strap id (R174). -/
theorem State.startNode_valid (s : State) :
    (∃ code, s.startNode = s.respond 1 code []) ∨
    s.port.strapValid = .valid ∧ s.startNode = s.begin.respond 1 .accept [] := by
  unfold State.startNode
  split
  · next h => exact .inr ⟨State.valid_of_judgeStart h, rfl⟩
  · exact .inl ⟨_, rfl⟩
  · exact .inl ⟨_, rfl⟩
  · exact .inl ⟨_, rfl⟩

theorem State.startNode_keepsLawful (s : State) : s.KeepsLawful s.startNode := by
  rcases s.startNode_valid with ⟨code, e⟩ | ⟨valid, e⟩ <;> rw [e]
  · exact .quiet rfl rfl rfl rfl fun _ => rfl
  · have steer : (s.begin.respond 1 .accept []).steer = { Steering.reset with nodeState := .listen } := s.begin_steer
    refine ⟨fun h => h.of_sampled (by rw [valid]; nofun) ?_ ?_ ?_, fun _ => ?_⟩
    · simp [State.respond]
    · simp [State.respond]
    · simp [State.respond]
    · rw [State.refSelectedFits_iff, steer]
      exact Steering.refFits_of_clear rfl nofun

/-- After a reset every slot is VACANT, the node is in WARMUP and REF selected is clear (R20, R69, R95). -/
theorem State.resetTo_lawful (s : State) (cause : ResetCause) (straps : BitVec 4) (rate : Int) (record : Option ConfigRecord) :
    (s.resetTo cause straps rate record).OwnSlotVacant ∧ (s.resetTo cause straps rate record).RefSelectedFits := by
  have vacant (i : Fin 16) : (s.resetTo cause straps rate record).slots[i].liveness = .vacant := by
    simp [State.resetTo, Slot.reset]
  exact ⟨⟨vacant _, fun _ => ⟨rfl, vacant⟩⟩, Steering.refFits_of_clear rfl nofun⟩

theorem exec_reset_keepsLawful {c : Instr} {s t : State} (hc : isReset c = true) (h : exec c s = .next t) : s.KeepsLawful t := by
  have reset (u v : State) (cause : ResetCause) (straps : BitVec 4) (rate : Int) (record : Option ConfigRecord) :
      u.KeepsLawful (v.resetTo cause straps rate record) :=
    ⟨fun _ => (v.resetTo_lawful cause straps rate record).1, fun _ => (v.resetTo_lawful cause straps rate record).2⟩
  cases c with
  | supplyReset e straps => cases h; exact reset _ _ _ _ _ _
  | resetPinAssert e =>
    cases h
    refine (s.elapse_keepsLawful e).trans ?_
    unfold State.assertPin
    split
    · exact .refl _
    · exact reset _ _ _ _ _ _
  | resetPinRelease e straps =>
    cases h
    refine (s.elapse_keepsLawful e).trans ?_
    unfold State.releasePin
    split
    · exact reset _ _ _ _ _ _
    · exact .refl _
  | commandReset e straps =>
    cases h
    refine (s.elapse_keepsLawful e).trans ?_
    unfold State.commandReset
    split
    · exact reset _ _ _ _ _ _
    · exact .refl _
  | _ => cases hc

/-! ## Commands and steps -/

/-- Every command keeps the own slot VACANT and what R95 asks of REF selected. -/
theorem exec_keepsLawful {c : Instr} {s t : State} (h : exec c s = .next t) : s.KeepsLawful t := by
  cases hc : isReset c with
  | true => exact exec_reset_keepsLawful hc h
  | false =>
    by_cases hs : ∃ e, c = .start e
    · obtain ⟨e, rfl⟩ := hs
      simp only [exec, execStart, Host.Outcome.next.injEq] at h
      rw [← h]
      refine (s.elapse_keepsLawful e).trans ?_
      split
      · exact .refl _
      · exact State.startNode_keepsLawful _
    · obtain ⟨v, t', hv, ht, htakes⟩ := exec_takes c s hc fun e he => hs ⟨e, he⟩
      rw [ht] at h
      cases h
      refine (hv.keepsLawful.trans (v.elapse_keepsLawful c.elapsed)).trans ?_
      rcases htakes with hr | ⟨-, hh | he⟩
      · exact hr.keepsLawful
      · exact hh.keepsLawful
      · exact he.keepsLawful

/-- Settles O59: every command, and the passing of time in an idle step, keeps both. -/
theorem everyStepKeepsRecordLawful : Obligations.EveryStepKeepsRecordLawful := by
  intro s t hstep
  unfold step at hstep
  split at hstep
  · cases hstep
    exact s.elapse_keepsLawful (idleElapsed s.idleCount)
  · next c rest hp => exact exec_keepsLawful (s := s.setPending rest) hstep

end Sys2Proof.Machine
end

section
/-! SUPPORT. CLEAR as its statement sees it (R68, R167). -/

namespace Sys2Proof.Machine

/-- A selected flag falls, and no other (R167). -/
theorem State.clearSelected_flag (s : State) (conditions : BitVec 32) (slots : BitVec 16) {i : Nat} (h : i < 16) :
    (s.clearSelected conditions slots).cond.flags.getLsbD i = (s.cond.flags.getLsbD i && !conditions.getLsbD i) := by
  simp [State.clearSelected, h]

theorem CaptureUnit.clear_eq (c : CaptureUnit) (selected : Bool) :
    c.clear selected = { c with overflow := if selected then 0 else c.overflow } := by
  cases selected <;> rfl

theorem clearSlots_get (selector : BitVec 16) (v : Vector Slot 16) (i : Fin 16) :
    (clearSlots selector v)[i] = if selector.getLsbD i.val then v[i].clear else v[i] :=
  vmapIdx_get _ v i.val i.isLt

/-- CLEAR answers the flags from before, and touches the flags, the overflow count and the two tables (R68, R167). -/
theorem State.clearAll_eq (u : State) (conditions : BitVec 32) (slots : BitVec 16) : u.clearAll conditions slots = { u with
    cond := (u.clearSelected conditions slots).cond, capture := u.capture.clear (conditions.getLsbD 12)
    slots := clearSlots slots u.slots, published := { u.published with slots := clearSlots slots u.published.slots }
    port := { u.port with dataOut := List.replicate 7 0x00#8 ++ 0x01#8 :: (bytes2 u.cond.flags ++
      [if u.cond.fault then 1#8 else 0#8]) } } := rfl

theorem State.exec_clear {s : State} {e : Elapsed} (conditions : BitVec 32) (slots : BitVec 16)
    (hh : (s.elapse e).pins.resetAsserted = false) :
    exec (.clear e conditions slots) s = .next ((s.elapse e).clearAll conditions slots) :=
  congrArg Host.Outcome.next (if_neg (by rw [State.held, hh]; nofun))

/-- Settles O48: the flags, the overflow count, and each slot of both tables by whether it is selected. -/
theorem clearClearsSelected : Obligations.ClearClearsSelected := by
  intro e conditions slots s u cleared hh
  refine ⟨_, State.exec_clear conditions slots hh, ?_⟩
  rw [State.clearAll_eq]
  refine ⟨rfl, rfl, fun i hi => u.clearSelected_flag conditions slots hi, u.capture.clear_eq _, fun i => ?_⟩
  simp only [clearSlots_get]
  split
  · exact ⟨rfl, rfl⟩
  · exact ⟨rfl, rfl⟩

end Sys2Proof.Machine
end

section
/-! SUPPORT. ROUND_CLOSE as its statements see it: the round copies, the lane, the quiet count and the skew of two copies (R57 to
R59, R70, R74). -/

namespace Sys2Proof.Machine

/-! ## What some slot, or one of its copies, has -/

theorem any_table_iff {α : Type} {n : Nat} (v : Vector α n) (f : α → Bool) :
    v.toList.any f = true ↔ ∃ i : Fin n, f v[i] = true := by
  simp only [List.any_eq_true, Vector.mem_toList_iff, Vector.mem_iff_getElem]
  constructor
  · rintro ⟨_, ⟨i, hi, rfl⟩, h⟩
    exact ⟨⟨i, hi⟩, h⟩
  · rintro ⟨i, h⟩
    exact ⟨_, ⟨i, i.isLt, rfl⟩, h⟩

/-- Whether one of two round copies carries a settled state (R74). -/
theorem Slot.heardSettled_iff (x : Slot) :
    x.heardSettled = true ↔ ∃ p c, x.round.get p = some c ∧ c.status.state.settled = true := by
  simp only [Slot.heardSettled, Pair.toList, List.any_cons, List.any_nil, Bool.or_false, Bool.or_eq_true,
    Option.any_eq_true]
  constructor
  · rintro (⟨c, h⟩ | ⟨c, h⟩)
    · exact ⟨.a, c, h⟩
    · exact ⟨.b, c, h⟩
  · rintro ⟨p, c, h⟩
    cases p
    · exact .inl ⟨c, h⟩
    · exact .inr ⟨c, h⟩

/-- The quiet count goes back to 0 where some round copy carries a settled state, and on where none does (R74). -/
theorem quietAfter_spec (quiet : Nat) (v : Vector Slot 16) :
    (∀ (i : Fin 16) (p : PortId) (c : Copy), v[i].round.get p = some c → c.status.state.settled = true →
      quietAfter quiet v = 0) ∧
    ((∀ (i : Fin 16) (p : PortId) (c : Copy), v[i].round.get p = some c → c.status.state.settled = false) →
      quietAfter quiet v = min 16 (quiet + 1)) := by
  have heard : v.toList.any Slot.heardSettled = true ↔
      ∃ (i : Fin 16) (p : PortId) (c : Copy), v[i].round.get p = some c ∧ c.status.state.settled = true := by
    simp only [any_table_iff, Slot.heardSettled_iff]
  refine ⟨fun i p c hc hs => if_pos (heard.mpr ⟨i, p, c, hc, hs⟩), fun none => if_neg fun h => ?_⟩
  obtain ⟨i, p, c, hc, hs⟩ := heard.mp h
  rw [none i p c hc] at hs
  cases hs

/-! ## PORT_SKEW (R59) -/

theorem Copy.candidate_iff (c : Copy) : c.candidate = true ↔ c.estimate ≠ none ∧ c.congested = false := by
  simp [Copy.candidate, Option.isSome_iff_ne_none]

/-- Two checked candidates whose estimates differ by more than the bound (R59). -/
theorem Slot.skewed_iff (x : Slot) (cfg : ConfigRecord) : x.skewed cfg = true ↔ ∃ (a b : Copy) (v w : Int),
    x.round = ⟨some a, some b⟩ ∧ a.checked = true ∧ b.checked = true ∧ a.congested = false ∧ b.congested = false ∧
      a.estimate = some v ∧ b.estimate = some w ∧ cfg.portSkew < |v - w| := by
  constructor
  · intro h
    unfold Slot.skewed at h
    split at h
    · next a b ha hb =>
      simp only [Bool.and_eq_true, Copy.candidate_iff] at h
      obtain ⟨⟨⟨⟨checkedA, checkedB⟩, -, clearA⟩, -, clearB⟩, differ⟩ := h
      split at differ
      · next v w hv hw =>
        exact ⟨a, b, v, w, by rw [← ha, ← hb], checkedA, checkedB, clearA, clearB, hv, hw, of_decide_eq_true differ⟩
      · cases differ
    · cases h
  · rintro ⟨a, b, v, w, hr, checkedA, checkedB, clearA, clearB, hv, hw, differ⟩
    simp [Slot.skewed, hr, Copy.candidate, checkedA, checkedB, clearA, clearB, hv, hw, differ]

/-- The work of a close on the Peer Table, with the one condition that it can set (R57 to R59). -/
theorem State.closePeers_fields (s : State) (round : BitVec 32) :
    let slots := vmap (·.close round) s.slots
    s.closePeers round = { s with
      slots := slots, cond := if slots.toList.any (·.skewed s.config) then s.cond.raise 4 else s.cond } := by
  unfold State.closePeers
  simp only
  generalize (vmap (·.close round) s.slots).toList.any (·.skewed s.config) = skewed
  cases skewed <;> rfl

/-! ## The close (R57, R70) -/

/-- The slots that a close leaves. -/
def State.closedSlots (s : State) (tm : Timestamp) : Vector Slot 16 := vmap (·.close (roundOfClose s.config tm)) s.slots

theorem State.closedSlots_get (s : State) (tm : Timestamp) (i : Fin 16) :
    (s.closedSlots tm)[i] = s.slots[i].close (roundOfClose s.config tm) := vmap_get _ s.slots i.val i.isLt

/-- The part after a close, field by field. -/
theorem State.takeClose_fields (s : State) (tm : Timestamp) :
    let t := s.takeClose tm
    t = { s with
      clock := { s.clock with named := { s.clock.named with close := some (tm.plus s.config.roundQns) } }
      ref := { s.ref with fresh := false }, slots := s.closedSlots tm, round := t.round
      cond := if (s.closedSlots tm).toList.any (·.skewed s.config) then s.cond.raise 4 else s.cond } ∧
    t.round = { quiet := quietAfter s.round.quiet (s.closedSlots tm), working := t.round.working, published := s.round.published
                flight := some { round := roundOfClose s.config tm, slots := s.closedSlots tm, nodeState := s.steer.nodeState
                                 epochKnown := s.steer.epochKnown, utc := s.steer.utc, refSelected := s.steer.refSelected
                                 refOffset := if s.ref.fresh then s.ref.lastOffset else none
                                 stepCount := s.clock.stepCount, overtaken := false } } := by
  unfold State.takeClose
  simp only [State.closePeers_fields]
  exact ⟨rfl, rfl⟩

/-- A close that is due is taken while none is in flight (R70, log entry 26). -/
theorem State.exec_roundClose {s : State} {e : Elapsed} {tm : Timestamp} (hh : (s.elapse e).pins.resetAsserted = false)
    (hr : (s.elapse e).steer.nodeState.running = true) (named : (s.elapse e).clock.named.close = some tm)
    (due : (s.elapse e).clock.reading.reached tm = true) (free : (s.elapse e).round.flight = none) :
    exec (.roundClose e) s = .next ((s.elapse e).takeClose tm) := by
  simp only [exec, execRoundClose, named, State.running_of _ hh hr, due, free, Option.isNone_none, Bool.and_self, if_true]

/-- A slot at a close (R57). -/
theorem Slot.close_spec (x : Slot) (n : BitVec 32) : let y := x.close n
    y = { x with current := ⟨none, none⟩, round := y.round, prev := y.prev, windows := y.windows, lane := y.lane } ∧
    ∀ p, y.round.get p = (x.current.get p).filter (fun c => c.attributed = n) ∧
      y.prev.get p = (y.round.get p).map (fun c => { stamp := c.ingress, round := c.roundField, step := c.ingressStep }) ∧
      y.windows.get p = (x.windows.get p).map fun w => { w with closed := true } := by
  refine ⟨rfl, fun p => ?_⟩
  simp only [Slot.close, Pair.get_map]
  exact ⟨rfl, rfl, rfl⟩

/-- Settles O25: the fields of the state after the close, then its quiet count, its skew and each slot by their own lemmas. -/
theorem roundCloseTakes : Obligations.RoundCloseTakes := by
  intro e s tm u n skewed hh hr named due free
  refine ⟨u.takeClose tm, State.exec_roundClose hh hr named due free, ?_⟩
  obtain ⟨fields, round⟩ := u.takeClose_fields tm
  have slots : (u.takeClose tm).slots = u.closedSlots tm := by rw [fields]
  have cond : (u.takeClose tm).cond = if (u.closedSlots tm).toList.any (·.skewed u.config) then u.cond.raise 4 else u.cond := by
    rw [fields]
  have quiet : (u.takeClose tm).round.quiet = quietAfter u.round.quiet (u.closedSlots tm) := by rw [round]
  have skew : (u.closedSlots tm).toList.any (·.skewed u.config) = true ↔ skewed (u.closedSlots tm) := by
    simp only [any_table_iff, Slot.skewed_iff]
    rfl
  obtain ⟨heard, unheard⟩ := quietAfter_spec u.round.quiet (u.closedSlots tm)
  refine ⟨?_, ?_, ?_, ?_, ?_, ?_, fun i => ?_⟩
  · rw [slots, cond]; exact fields
  · rw [slots, quiet]; exact round
  · rw [slots, quiet]; exact heard
  · rw [slots, quiet]; exact unheard
  · rw [slots, cond]; exact fun h => if_pos (skew.mpr h)
  · rw [slots, cond]; exact fun h => if_neg fun h' => h (skew.mp h')
  · simp only [slots, State.closedSlots_get]
    exact u.slots[i].close_spec n

/-! ## The lane (R58) -/

/-- R58's order between two copies with an estimate and not congested, `c` on port `p`: checked before unchecked, then the smaller
filtered delay, an absent one counting as the larger, then port A. -/
def Copy.PreferredTo (c d : Copy) (p : PortId) (dc dd : Option Nat) : Prop :=
  (d.checked = true → c.checked = true) ∧
  (c.checked = d.checked → match dc, dd with
    | some x, some y => x ≤ y ∧ (x = y → p = .a)
    | some _, none => True
    | none, some _ => False
    | none, none => p = .a)

theorem preferredTo_of_prefersB {a b : Copy} {da db : Option Nat} (h : prefersB a b da db = true) :
    b.PreferredTo a .b db da := by
  unfold prefersB at h
  split at h
  · next alike =>
    refine ⟨fun ha => alike ▸ ha, fun _ => ?_⟩
    cases da <;> cases db
    case some.some x y =>
      have less : y < x := of_decide_eq_true h
      exact ⟨less.le, fun e => absurd e less.ne⟩
    case none.some => trivial
    case none.none | some.none => cases h
  · next differ => exact ⟨fun _ => h, fun e => absurd e.symm differ⟩

theorem preferredTo_of_not_prefersB {a b : Copy} {da db : Option Nat} (h : prefersB a b da db = false) :
    a.PreferredTo b .a da db := by
  unfold prefersB at h
  split at h
  · next alike =>
    refine ⟨fun hb => alike ▸ hb, fun _ => ?_⟩
    cases da <;> cases db
    case some.some x y => exact ⟨not_lt.mp (of_decide_eq_false h), fun _ => rfl⟩
    case none.none => rfl
    case some.none => trivial
    case none.some => cases h
  · next differ => exact ⟨fun hb => absurd (hb.symm.trans h) nofun, fun e => absurd e differ⟩

/-- The choice of R58: no copy where none is admitted; else an admitted one, preferred to an admitted one on the other port. -/
theorem chooseCopy_spec (fits : PortId → Copy → Bool) (copies : Pair (Option Copy)) (d : Pair (Option Nat)) :
    (chooseCopy fits copies d = none ∧ ∀ p c, copies.get p = some c → fits p c = false) ∨
    ∃ p c, chooseCopy fits copies d = some (p, c) ∧ copies.get p = some c ∧ fits p c = true ∧
      ∀ q k, q ≠ p → copies.get q = some k → fits q k = true → c.PreferredTo k p (d.get p) (d.get q) := by
  have excluded {p : PortId} (h : (copies.get p).filter (fits p) = none) (c : Copy) (hc : copies.get p = some c) :
      fits p c = false := by
    simpa [hc] using h
  have admitted {p : PortId} {c : Copy} (h : (copies.get p).filter (fits p) = some c) :
      copies.get p = some c ∧ fits p c = true := Option.filter_eq_some_iff.mp h
  unfold chooseCopy
  cases ha : copies.a.filter (fits .a) with
  | none =>
    cases hb : copies.b.filter (fits .b) with
    | none =>
      refine .inl ⟨rfl, fun p => ?_⟩
      cases p
      · exact excluded ha
      · exact excluded hb
    | some b =>
      obtain ⟨held, fit⟩ := admitted (p := .b) hb
      refine .inr ⟨.b, b, rfl, held, fit, fun q k hq => ?_⟩
      cases q
      · exact fun hk fit => absurd (fit.symm.trans (excluded ha k hk)) nofun
      · exact absurd rfl hq
  | some a =>
    obtain ⟨heldA, fitA⟩ := admitted (p := .a) ha
    cases hb : copies.b.filter (fits .b) with
    | none =>
      refine .inr ⟨.a, a, rfl, heldA, fitA, fun q k hq => ?_⟩
      cases q
      · exact absurd rfl hq
      · exact fun hk fit => absurd (fit.symm.trans (excluded hb k hk)) nofun
    | some b =>
      obtain ⟨heldB, fitB⟩ := admitted (p := .b) hb
      right
      cases h : prefersB a b d.a d.b with
      | true =>
        refine ⟨.b, b, by simp only [h, if_true], heldB, fitB, fun q k hq hk _ => ?_⟩
        cases q
        · obtain rfl : a = k := Option.some.inj (heldA.symm.trans hk)
          exact preferredTo_of_prefersB h
        · exact absurd rfl hq
      | false =>
        refine ⟨.a, a, by simp [h], heldA, fitA, fun q k hq hk _ => ?_⟩
        cases q
        · exact absurd rfl hq
        · obtain rfl : b = k := Option.some.inj (heldB.symm.trans hk)
          exact preferredTo_of_not_prefersB h

/-- The lane that a slot selects from its round copies (R58). -/
theorem Slot.selectLane_spec (y : Slot) :
    (y.selectLane = none ↔ ∀ p c, y.round.get p = some c → c.estimate ≠ none → c.congested = true) ∧
    ∀ l, y.selectLane = some l → ∃ c, y.round.get l.port = some c ∧ c.estimate = some l.value ∧ c.congested = false ∧
      l.status = c.status ∧ ∀ q d, q ≠ l.port → y.round.get q = some d → d.estimate ≠ none → d.congested = false →
        c.PreferredTo d l.port (filteredDelay (y.windows.get l.port)) (filteredDelay (y.windows.get q)) := by
  have excluded (c : Copy) : c.candidate = false ↔ (c.estimate ≠ none → c.congested = true) := by
    rw [← Bool.not_eq_true, Copy.candidate_iff, not_and, Bool.not_eq_false]
  rcases chooseCopy_spec (fun _ c => c.candidate) y.round y.delays with ⟨chosen, void⟩ | ⟨p, c, chosen, held, fit, first⟩
  · have lane : y.selectLane = none := by simp only [Slot.selectLane, chosen]
    exact ⟨iff_of_true lane fun p c hc => (excluded c).mp (void p c hc), fun l hl => absurd (lane.symm.trans hl) nofun⟩
  · obtain ⟨estimated, clear⟩ := c.candidate_iff.mp fit
    obtain ⟨v, hv⟩ := Option.ne_none_iff_exists'.mp estimated
    have lane : y.selectLane = some { value := v, port := p, status := c.status } := by
      simp only [Slot.selectLane, chosen, hv, Option.map_some]
    refine ⟨iff_of_false (by rw [lane]; nofun) fun all => ?_, fun l hl => ?_⟩
    · rw [all p c held estimated] at clear; cases clear
    · obtain rfl := Option.some.inj (lane.symm.trans hl)
      refine ⟨c, held, hv, clear, rfl, fun q d hq hd hasEstimate uncongested => ?_⟩
      have order := first q d hq hd (d.candidate_iff.mpr ⟨hasEstimate, uncongested⟩)
      simpa only [Slot.delays, Pair.get_map] using order

/-- Settles O26: the lane of a closed slot is the one it selects. -/
theorem laneIsPreferred : Obligations.LaneIsPreferred := by
  intro e s tm u hh hr named due free
  refine ⟨u.takeClose tm, State.exec_roundClose hh hr named due free, fun i => ?_⟩
  have slots : (u.takeClose tm).slots = u.closedSlots tm := by rw [(u.takeClose_fields tm).1]
  simp only [slots, State.closedSlots_get]
  exact Slot.selectLane_spec (u.slots[i].close (roundOfClose u.config tm))

end Sys2Proof.Machine
end

section
/-! SUPPORT. Sorted lanes, what is kept of them, their range and their mean; what trimming and the mean make of faulty lanes (R80 to
R82). -/

namespace Sys2Proof.Machine

/-! ## The sorted order (R80) -/

/-- The order of R80, by value and then by node id, as a relation. -/
def SetLane.Le (x y : SetLane) : Prop := x.value < y.value ∨ (x.value = y.value ∧ x.id ≤ y.id)

theorem SetLane.before_iff (x y : SetLane) : x.before y = true ↔ x.Le y := by simp [SetLane.before, SetLane.Le]

theorem SetLane.Le.of_not_before {x y : SetLane} (h : ¬x.before y = true) : y.Le x := by
  rw [SetLane.before_iff] at h
  unfold SetLane.Le at h ⊢
  omega

theorem SetLane.Le.trans {x y z : SetLane} (h : x.Le y) (h' : y.Le z) : x.Le z := by
  unfold SetLane.Le at *
  omega

theorem insertLane_pairwise (x : SetLane) (l : List SetLane) (h : l.Pairwise SetLane.Le) :
    (insertLane x l).Pairwise SetLane.Le := by
  induction l with
  | nil => exact List.pairwise_singleton _ x
  | cons y l ih =>
    obtain ⟨least, sorted⟩ := List.pairwise_cons.mp h
    unfold insertLane
    split
    · next first =>
      have le := (x.before_iff y).mp first
      exact List.pairwise_cons.mpr ⟨List.forall_mem_cons.mpr ⟨le, fun z hz => le.trans (least z hz)⟩, h⟩
    · next later =>
      refine List.pairwise_cons.mpr ⟨fun z hz => ?_, ih sorted⟩
      rcases List.mem_cons.mp ((insertLane_perm x l).mem_iff.mp hz) with rfl | hz
      · exact .of_not_before later
      · exact least z hz

/-- Sorting puts the lanes into the order of R80. -/
theorem sortLanes_pairwise (l : List SetLane) : (sortLanes l).Pairwise SetLane.Le := by
  induction l with
  | nil => exact .nil
  | cons x l ih => exact insertLane_pairwise x _ ih

/-! ## What is kept (R81) -/

@[simp] theorem keep_length {α : Type} (k : Nat) (l : List α) : (keep k l).length = l.length - 2 * k := by
  simp only [keep, List.length_take, List.length_drop]
  omega

theorem keep_sublist {α : Type} (k : Nat) (l : List α) : (keep k l).Sublist l :=
  (List.take_sublist _ _).trans (List.drop_sublist _ _)

theorem keep_sorted (k : Nat) (l : List SetLane) : (keep k (sortLanes l)).Pairwise fun x y => x.value ≤ y.value :=
  (sortLanes_sorted l).sublist (keep_sublist k _)

theorem keep_ne_nil {α : Type} {k : Nat} {l : List α} (h : 2 * k < l.length) : keep k l ≠ [] :=
  List.ne_nil_of_length_pos (by rw [keep_length]; omega)

/-! ## The range (R81) -/

/-- The least and the largest value of a set. -/
def Ends (l : List SetLane) (low high : Int) : Prop :=
  (∃ x ∈ l, x.value = low) ∧ (∃ x ∈ l, x.value = high) ∧ ∀ x ∈ l, low ≤ x.value ∧ x.value ≤ high

theorem Ends.unique {l : List SetLane} {low high low' high' : Int} (h : Ends l low high) (h' : Ends l low' high') :
    low = low' ∧ high = high' := by
  obtain ⟨⟨a, ha, rfl⟩, ⟨b, hb, rfl⟩, all⟩ := h
  obtain ⟨⟨a', ha', rfl⟩, ⟨b', hb', rfl⟩, all'⟩ := h'
  exact ⟨le_antisymm (all a' ha').1 (all' a ha).1, le_antisymm (all' b hb).2 (all b' hb').2⟩

/-- The range of a sorted set that is not empty has its ends. -/
theorem rangeOf_ends {l : List SetLane} (sorted : l.Pairwise fun x y => x.value ≤ y.value) (h : l ≠ []) :
    ∃ g, rangeOf l = some g ∧ Ends l g.low g.high := by
  refine ⟨⟨(l.head h).value, (l.getLast h).value⟩, by simp only [rangeOf, List.head?_eq_some_head h,
    List.getLast?_eq_some_getLast h], ⟨_, List.head_mem h, rfl⟩, ⟨_, List.getLast_mem h, rfl⟩, fun x hx => ⟨?_, ?_⟩⟩
  · exact sorted.rel_head_of_rel_head_head hx le_rfl
  · exact sorted.rel_getLast_of_rel_getLast_getLast hx le_rfl

theorem rangeOf_of_ends {l : List SetLane} {low high : Int} (sorted : l.Pairwise fun x y => x.value ≤ y.value)
    (h : Ends l low high) : rangeOf l = some ⟨low, high⟩ := by
  obtain ⟨x, hx, -⟩ := h.1
  obtain ⟨g, hg, ends⟩ := rangeOf_ends sorted (List.ne_nil_of_mem hx)
  obtain ⟨rfl, rfl⟩ := ends.unique h
  exact hg

/-! ## The mean (R82) -/

/-- The mean is not below a bound of every value. -/
theorem le_meanOf {l : List SetLane} {low : Int} (h : l ≠ []) (all : ∀ x ∈ l, low ≤ x.value) : low ≤ meanOf l := by
  refine le_halfEven (List.length_pos_iff.mpr h) ?_
  have := List.card_nsmul_le_sum (l.map (·.value)) low (by simpa using all)
  simpa [mul_comm] using this

/-- The mean is not above a bound of every value. -/
theorem meanOf_le {l : List SetLane} {high : Int} (h : l ≠ []) (all : ∀ x ∈ l, x.value ≤ high) : meanOf l ≤ high := by
  refine halfEven_le (List.length_pos_iff.mpr h) ?_
  have := List.sum_le_card_nsmul (l.map (·.value)) high (by simpa using all)
  simpa [mul_comm] using this

theorem Ends.mean {l : List SetLane} {low high : Int} (h : Ends l low high) : low ≤ meanOf l ∧ meanOf l ≤ high := by
  obtain ⟨⟨x, hx, -⟩, -, all⟩ := h
  have nonempty := List.ne_nil_of_mem hx
  exact ⟨le_meanOf nonempty fun y hy => (all y hy).1, meanOf_le nonempty fun y hy => (all y hy).2⟩

/-! ## Faulty lanes (R81) -/

/-- Of a set with no more faulty lanes than its part `a` has lanes, one of them beyond `a`, some lane of `a` is sound. -/
theorem exists_sound {a b : List SetLane} {faulty : SetLane → Bool} {x : SetLane}
    (few : ((a ++ b).filter faulty).length ≤ a.length) (hx : x ∈ b) (bad : faulty x = true) :
    ∃ y ∈ a, faulty y = false := by
  by_contra none
  have all : a.filter faulty = a := List.filter_eq_self.mpr fun y hy => by
    by_contra sound
    exact none ⟨y, hy, Bool.eq_false_iff.mpr sound⟩
  have beyond : 0 < (b.filter faulty).length := List.length_pos_of_mem (List.mem_filter.mpr ⟨hx, bad⟩)
  rw [List.filter_append, List.length_append, all] at few
  omega

variable {l : List SetLane} {k : Nat} {faulty : SetLane → Bool}

/-- Beyond the first `k` lanes of a sorted set, at most `k` of them faulty, no value is below the sound ones. -/
theorem le_of_mem_drop {low : Int} {x : SetLane} (sorted : l.Pairwise fun x y => x.value ≤ y.value)
    (few : (l.filter faulty).length ≤ k) (sound : ∀ y ∈ l, faulty y = false → low ≤ y.value) (hx : x ∈ l.drop k) :
    low ≤ x.value := by
  cases bad : faulty x with
  | false => exact sound x (List.mem_of_mem_drop hx) bad
  | true =>
    have first : (l.take k).length = k := by
      have := List.length_pos_of_mem hx
      rw [List.length_drop] at this
      rw [List.length_take]
      omega
    rw [← List.take_append_drop k l] at few sorted
    obtain ⟨y, hy, good⟩ := exists_sound (few.trans first.ge) hx bad
    exact (sound y (List.mem_of_mem_take hy) good).trans ((List.pairwise_append.mp sorted).2.2 y hy x hx)

/-- Before the last `k` lanes of a sorted set, at most `k` of them faulty, no value is above the sound ones. -/
theorem le_of_mem_take {high : Int} {x : SetLane} (sorted : l.Pairwise fun x y => x.value ≤ y.value)
    (few : (l.filter faulty).length ≤ k) (sound : ∀ y ∈ l, faulty y = false → y.value ≤ high)
    (hx : x ∈ l.take (l.length - k)) : x.value ≤ high := by
  cases bad : faulty x with
  | false => exact sound x (List.mem_of_mem_take hx) bad
  | true =>
    have last : (l.drop (l.length - k)).length = k := by
      have := List.length_pos_of_mem hx
      rw [List.length_take] at this
      rw [List.length_drop]
      omega
    have swapped : (l.drop (l.length - k) ++ l.take (l.length - k)).Perm l :=
      List.perm_append_comm.trans (.of_eq (List.take_append_drop _ l))
    obtain ⟨y, hy, good⟩ := exists_sound (((swapped.filter faulty).length_eq.trans_le few).trans last.ge) hx bad
    rw [← List.take_append_drop (l.length - k) l] at sorted
    exact ((List.pairwise_append.mp sorted).2.2 x hx y hy).trans (sound y (List.mem_of_mem_drop hy) good)

theorem mem_take_of_mem_keep {x : SetLane} (hx : x ∈ keep k l) : x ∈ l.take (l.length - k) := by
  have : keep k l = ((l.take (l.length - k)).drop k).take (l.length - 2 * k) := by
    rw [keep, List.drop_take, List.take_take]
    congr 1
    omega
  exact List.mem_of_mem_drop (List.mem_of_mem_take (this ▸ hx))

/-- Trimming `k` lanes at each end confines the mean of the kept ones to the range of the sound lanes, if at most `k` lanes are
faulty. -/
theorem mean_of_trimmed {low high : Int} (few : (l.filter faulty).length ≤ k) (enough : 2 * k < l.length)
    (sound : ∀ x ∈ l, faulty x = false → low ≤ x.value ∧ x.value ≤ high) :
    low ≤ meanOf (keep k (sortLanes l)) ∧ meanOf (keep k (sortLanes l)) ≤ high := by
  have perm := sortLanes_perm l
  have few' : ((sortLanes l).filter faulty).length ≤ k := (perm.filter faulty).length_eq.trans_le few
  have nonempty : keep k (sortLanes l) ≠ [] := keep_ne_nil (by rwa [sortLanes_length])
  refine ⟨le_meanOf nonempty fun x hx => ?_, meanOf_le nonempty fun x hx => ?_⟩
  · exact le_of_mem_drop (sortLanes_sorted l) few' (fun y hy good => (sound y (perm.mem_iff.mp hy) good).1)
      (List.mem_of_mem_take hx)
  · exact le_of_mem_take (sortLanes_sorted l) few' (fun y hy good => (sound y (perm.mem_iff.mp hy) good).2)
      (mem_take_of_mem_keep hx)

end Sys2Proof.Machine
end

section
/-! SUPPORT. The sets of a round, the one it uses, and the peer range (R75 to R78, R85, R86). -/

namespace Sys2Proof.Machine

variable (f : Flight) (c : ConfigRecord) (id : Fin 16) (quiet : Nat)

/-! ## Candidate lanes (R75, R77) -/

theorem SenderState.settled_iff (st : SenderState) :
    st.settled = true ↔ st = .track ∨ st = .holdover ∨ st = .anchored := by
  cases st <;> simp [SenderState.settled]

theorem NodeState.settled_iff (st : NodeState) :
    st.settled = true ↔ st = .track ∨ st = .holdover ∨ st = .anchored := by
  cases st <;> simp [NodeState.settled]

theorem Flight.relaxed_iff : f.relaxed = true ↔ f.nodeState = .listen ∧ f.epochKnown = false := by
  simp [Flight.relaxed]

theorem Flight.byRef_iff : f.byRef = true ↔ f.nodeState = .anchored ∨ (f.nodeState = .acquire ∧ f.refSelected = true) := by
  simp [Flight.byRef]

/-- A slot of the close offers this lane (R75, R77). -/
def Flight.Offers (z : SetLane) : Prop := ∃ l, f.slots[z.id].lane = some l ∧ z.value = l.value ∧ z.status = some l.status ∧
  f.slots[z.id].liveness = .active ∧ f.slots[z.id].suspect = false ∧
  ((f.nodeState = .listen ∧ f.epochKnown = false) ∨ l.status.epochKnown = f.epochKnown)

variable {f} in
theorem Flight.Offers.status_ne_none {z : SetLane} (h : f.Offers z) : z.status ≠ none := by
  obtain ⟨l, -, -, status, -⟩ := h
  rw [status]
  nofun

theorem Flight.candidate_eq_some (i : Fin 16) (z : SetLane) : f.candidate i = some z ↔ z.id = i ∧ f.Offers z := by
  unfold Flight.candidate Flight.Offers
  simp only [f.relaxed_iff, Bool.not_eq_true']
  constructor
  · intro h
    split at h
    · cases h
    · next l lane =>
      obtain ⟨⟨active, clear, epoch⟩, same⟩ := Option.ite_none_right_eq_some.mp h
      cases same
      exact ⟨rfl, l, lane, rfl, rfl, active, clear, epoch⟩
  · rintro ⟨rfl, l, lane, value, status, active, clear, epoch⟩
    rw [lane]
    simp only [active, clear, epoch, and_self, if_true, ← value, ← status]

theorem Flight.mem_candidates (z : SetLane) : z ∈ f.candidates ↔ f.Offers z := by
  simp [Flight.candidates, List.mem_filterMap, f.candidate_eq_some]

theorem Flight.candidates_nodup : f.candidates.Nodup :=
  (List.nodup_finRange 16).filterMap fun i j z hi hj =>
    ((f.candidate_eq_some i z).mp hi).1.symm.trans ((f.candidate_eq_some j z).mp hj).1

theorem Flight.mem_settledLanes (z : SetLane) : z ∈ f.settledLanes ↔
    f.Offers z ∧ ∀ st, z.status = some st → st.state = .track ∨ st.state = .holdover ∨ st.state = .anchored := by
  rw [Flight.settledLanes, List.mem_filter, f.mem_candidates]
  refine and_congr_right fun offers => ?_
  obtain ⟨l, -, -, status, -⟩ := offers
  simp [SetLane.settled, status, SenderState.settled_iff]

/-! ## The sets S and C (R76 to R78) -/

/-- A lane is in a set: it is admitted, and not removed for want of a known epoch, or it is the self lane and that one joins
(R75, R77). -/
def Flight.InSet (admits : SetLane → Prop) (self : Prop) (z : SetLane) : Prop :=
  let known (z : SetLane) : Prop := ∀ st, z.status = some st → st.epochKnown = true
  (admits z ∧ (f.nodeState = .listen ∧ f.epochKnown = false → (∃ w, admits w ∧ known w) → known z)) ∨
    (self ∧ z = { value := 0, id := id, status := none })

variable {f} in
theorem Flight.Offers.known_iff {z : SetLane} (h : f.Offers z) :
    z.known = true ↔ ∀ st, z.status = some st → st.epochKnown = true := by
  obtain ⟨l, -, -, status, -⟩ := h
  simp [SetLane.known, status]

theorem Flight.mem_reduce (l : List SetLane) (z : SetLane) :
    z ∈ f.reduce l ↔ z ∈ l ∧ (f.relaxed = true → (∃ w ∈ l, w.known = true) → z.known = true) := by
  unfold Flight.reduce
  split
  · next h =>
    obtain ⟨relaxed, any⟩ := Bool.and_eq_true_iff.mp h
    rw [List.any_eq_true] at any
    simp [relaxed, any]
  · next h =>
    rw [Bool.and_eq_true, List.any_eq_true] at h
    exact ⟨fun hz => ⟨hz, fun relaxed any => absurd ⟨relaxed, any⟩ h⟩, And.left⟩

theorem Flight.reduce_sublist (l : List SetLane) : (f.reduce l).Sublist l := by
  unfold Flight.reduce
  split
  · exact List.filter_sublist
  · exact .refl l

/-- A set made of lanes on offer, reduced, and of the self lane where that joins. -/
theorem Flight.set_spec {l : List SetLane} {admits : SetLane → Prop} {joins self : Prop} [Decidable joins]
    (nodup : l.Nodup) (mem : ∀ z, z ∈ l ↔ admits z) (offered : ∀ z, admits z → f.Offers z) (hself : joins ↔ self) :
    (f.reduce l ++ if joins then [selfLane id] else []).Nodup ∧
      ∀ z, z ∈ (f.reduce l ++ if joins then [selfLane id] else []) ↔ f.InSet id admits self z := by
  have known (z : SetLane) (h : admits z) := (offered z h).known_iff
  constructor
  · refine List.nodup_append'.mpr ⟨nodup.sublist (f.reduce_sublist l), ?_, fun z hz hself => ?_⟩
    · split
      · exact List.nodup_singleton _
      · exact .nil
    · have status := (offered z ((mem z).mp ((f.reduce_sublist l).subset hz))).status_ne_none
      split at hself
      · exact status (List.mem_singleton.mp hself ▸ rfl)
      · cases hself
  · intro z
    have some_known : (∃ w ∈ l, w.known = true) ↔ ∃ w, admits w ∧ ∀ st, w.status = some st → st.epochKnown = true :=
      exists_congr fun w => by rw [mem]; exact and_congr_right fun h => known w h
    have mem_self : z ∈ (if joins then [selfLane id] else []) ↔ self ∧ z = selfLane id := by
      rw [← hself, List.mem_ite_nil_right, List.mem_singleton]
    rw [List.mem_append, f.mem_reduce, mem_self, mem, f.relaxed_iff, some_known]
    refine or_congr (and_congr_right fun h => ?_) Iff.rfl
    rw [known z h]

theorem Flight.setS_spec : (f.setS id).Nodup ∧ ∀ z, z ∈ f.setS id ↔ f.InSet id
    (fun z => f.Offers z ∧ ∀ st, z.status = some st → st.state = .track ∨ st.state = .holdover ∨ st.state = .anchored)
    (f.nodeState = .track ∨ f.nodeState = .holdover ∨ f.nodeState = .anchored) z :=
  f.set_spec id (f.candidates_nodup.filter SetLane.settled) f.mem_settledLanes (fun _ => And.left) f.nodeState.settled_iff

theorem Flight.setC_spec : (f.setC id).Nodup ∧ ∀ z, z ∈ f.setC id ↔ f.InSet id f.Offers (f.nodeState = .acquire) z :=
  f.set_spec id f.candidates_nodup f.mem_candidates (fun _ h => h) Iff.rfl

/-! ## The set used (R76, R78, R85) -/

/-- A round uses no set, or one of at least 2f + 1 lanes: the peer set when it steers by REF, else S or C. -/
theorem Flight.used_cases :
    ((f.used c id quiet).1 = .none ∧ (f.used c id quiet).2 = []) ∨
    (2 * c.tolerance < (f.used c id quiet).2.length ∧ ((f.byRef = true ∧ (f.used c id quiet).1 = .peer) ∨
      (f.byRef = false ∧ ((f.used c id quiet).1 = .settled ∨ (f.used c id quiet).1 = .cold)))) := by
  unfold Flight.used
  cases f.byRef
  · simp only [Bool.false_eq_true, if_false]
    split
    · next enough => exact .inr ⟨enough, by simp⟩
    · split
      · next enough => exact .inr ⟨enough.2, by simp⟩
      · exact .inl ⟨rfl, rfl⟩
  · simp only [if_true]
    split
    · next enough => exact .inr ⟨enough.2, by simp⟩
    · exact .inl ⟨rfl, rfl⟩

theorem Flight.used_enough (h : (f.used c id quiet).1 ≠ .none) : 2 * c.tolerance < (f.used c id quiet).2.length := by
  rcases f.used_cases c id quiet with ⟨none, -⟩ | ⟨enough, -⟩
  · exact absurd none h
  · exact enough

theorem Flight.byRef_of_used (h : (f.used c id quiet).1 = .settled ∨ (f.used c id quiet).1 = .cold) : f.byRef = false := by
  rcases f.used_cases c id quiet with ⟨none, -⟩ | ⟨-, ⟨-, peer⟩ | ⟨free, -⟩⟩
  · rw [none] at h
    simp at h
  · rw [peer] at h
    simp at h
  · exact free

/-- A round that does not steer by REF, with S short of 2f + 1 lanes and C too where it is considered, uses no set (R79). -/
theorem Flight.used_of_starved (hb : f.byRef = false) (hs : (f.setS id).length < 2 * c.tolerance + 1)
    (hc : f.coldConsidered c id quiet = true → (f.setC id).length < 2 * c.tolerance + 1) :
    f.used c id quiet = (.none, []) := by
  have cold : ¬(f.coldConsidered c id quiet = true ∧ c.quorum ≤ (f.setC id).length) := fun h => (hc h.1).not_ge h.2
  simp only [Flight.used, hb, Bool.false_eq_true, if_false, if_neg (not_le.mpr hs : ¬c.quorum ≤ (f.setS id).length), if_neg cold]

theorem Flight.coldConsidered_iff : f.coldConsidered c id quiet = true ↔
    (f.nodeState = .listen ∨ f.nodeState = .acquire) ∧ (f.setS id).length < 2 * c.tolerance + 1 ∧ quiet = 16 ∧
      f.byRef = false := by
  simp [Flight.coldConsidered, ConfigRecord.quorum, and_assoc]

/-! ## The peer range (R86) -/

theorem Flight.peerRange_disabled (h : c.refEnable = false) : f.peerRange c = .absent := by
  simp [Flight.peerRange, h]

theorem Flight.peerRange_starved (h : c.refEnable = true) (few : f.settledLanes.length < 2 * c.tolerance + 1) :
    f.peerRange c = .starved := by
  have few' : f.settledLanes.length < c.quorum := few
  simp [Flight.peerRange, h, few']

theorem Flight.peerRange_kept (h : c.refEnable = true) (enough : 2 * c.tolerance + 1 ≤ f.settledLanes.length) :
    ∃ z, f.peerRange c = .kept z ∧ Ends (keep c.tolerance (sortLanes f.settledLanes)) z.low z.high := by
  have enough' : ¬f.settledLanes.length < c.quorum := not_lt.mpr enough
  obtain ⟨z, hz, ends⟩ := rangeOf_ends (keep_sorted c.tolerance f.settledLanes) (keep_ne_nil (by rw [sortLanes_length]; omega))
  exact ⟨z, by simp [Flight.peerRange, h, enough', hz], ends⟩

end Sys2Proof.Machine
end

section
/-! SUPPORT. The result of a round: its aggregate, the anchored target and its acceptance, the correction, the source and the round
estimate (R79, R82 to R85, R90), and their publication (R92). -/

namespace Sys2Proof.Machine

variable (f : Flight) (c : ConfigRecord) (id : Fin 16) (quiet : Nat)

/-! ## The kept values (R81, R82) -/

/-- The kept values of a set that is used are not empty. -/
theorem Flight.kept_ne_nil (h : (f.used c id quiet).1 ≠ .none) : (f.result c id quiet).kept ≠ [] :=
  keep_ne_nil (by rw [sortLanes_length]; exact f.used_enough c id quiet h)

theorem Flight.kept_sorted : (f.result c id quiet).kept.Pairwise fun x y => x.value ≤ y.value := keep_sorted _ _

/-- The mean of what trimming keeps, its length written out (R82). -/
theorem meanOf_keep (k : Nat) (l : List SetLane) :
    meanOf (keep k (sortLanes l)) = halfEven ((keep k (sortLanes l)).map (·.value)).sum (l.length - 2 * k) := by
  rw [meanOf, keep_length, sortLanes_length]

/-- What trimming keeps of a set, written out (R81). -/
theorem keep_sortLanes (k : Nat) (l : List SetLane) :
    keep k (sortLanes l) = ((sortLanes l).drop k).take (l.length - 2 * k) := by
  rw [keep, sortLanes_length]

/-! ## The anchored subset (R83) -/

theorem SetLane.anchorClass_lt (x : SetLane) : x.anchorClass < 8 := by
  cases h : x.status with
  | none => simp [SetLane.anchorClass, h]
  | some st => simpa [SetLane.anchorClass, h] using st.anchorClass.isLt

theorem bestClass_of_least {l : List SetLane} {best : Nat} (hit : ∃ x ∈ l, x.anchorClass = best)
    (least : ∀ x ∈ l, best ≤ x.anchorClass) : bestClass l = some best :=
  List.min?_eq_some_iff.mpr ⟨List.mem_map.mpr hit, by simpa using least⟩

/-- The anchored subset of a set with an anchored lane: the lanes of the best class, trimmed, and their mean (R83). -/
theorem anchorStage_spec {l : List SetLane} {best : Nat} (hit : ∃ x ∈ anchoredLanes l, x.anchorClass = best)
    (least : ∀ x ∈ anchoredLanes l, best ≤ x.anchorClass) :
    let a := (anchoredLanes l).filter fun x => x.anchorClass = best
    let kept := keep ((a.length - 1) / 2) (sortLanes a)
    ∃ z, anchorStage l = some z ∧ z.target = meanOf kept ∧ z.subset.bestClass.toNat = best ∧ z.subset.size = a.length ∧
      z.subset.fa = (a.length - 1) / 2 ∧ Ends kept z.subset.kept.low z.subset.kept.high := by
  intro a kept
  have nonempty : 0 < a.length := by
    obtain ⟨x, hx, class_⟩ := hit
    exact List.length_pos_of_mem (List.mem_filter.mpr ⟨hx, decide_eq_true class_⟩)
  have bound : best < 2 ^ 3 := by
    obtain ⟨x, -, rfl⟩ := hit
    exact x.anchorClass_lt
  obtain ⟨g, range, ends⟩ := rangeOf_ends (keep_sorted ((a.length - 1) / 2) a)
    (keep_ne_nil (by rw [sortLanes_length]; omega))
  refine ⟨{ subset := { bestClass := BitVec.ofNat 3 best, size := (sortLanes a).length, fa := (a.length - 1) / 2, kept := g
                        trimmed := sortIds ((setAside ((a.length - 1) / 2) (sortLanes a)).map (·.id)) }
            target := meanOf kept }, ?_, rfl, (BitVec.toNat_ofNat best 3).trans (Nat.mod_eq_of_lt bound),
    sortLanes_length a, rfl, ends⟩
  simp only [anchorStage, bestClass_of_least hit least, sortLanes_length]
  rw [range]

theorem anchorStage_none {l : List SetLane} (h : anchoredLanes l = []) : anchorStage l = none := by
  simp [anchorStage, bestClass, h]

/-! ## The target and the source (R83, R84) -/

/-- A round without an anchored lane in S has no target (R84). -/
theorem Flight.result_unanchored (h : (f.used c id quiet).1 ≠ .settled ∨ anchoredLanes (f.used c id quiet).2 = []) :
    (f.result c id quiet).anchor = none ∧ (f.result c id quiet).accepted = false ∧ (f.result c id quiet).split = false := by
  have anchor : (f.result c id quiet).anchor = none := by
    rcases h with other | none
    · exact if_neg other
    · exact ite_eq_right_iff.mpr fun _ => anchorStage_none none
  have accepted : (f.result c id quiet).accepted = false := by
    unfold Flight.result at anchor ⊢
    simp only at anchor ⊢
    rw [anchor]
  exact ⟨anchor, accepted, by rw [RoundResult.split, anchor]; rfl⟩

variable {f c id quiet}

/-- The anchored target of a round steered by S is accepted within the split bound of the kept range (R84). -/
theorem Flight.accepted_iff {z : AnchorStage} {low high : Int} (hz : (f.result c id quiet).anchor = some z)
    (h : Ends (f.result c id quiet).kept low high) :
    (f.result c id quiet).accepted = true ↔ low - c.splitBound ≤ z.target ∧ z.target ≤ high + c.splitBound := by
  have range := rangeOf_of_ends (f.kept_sorted c id quiet) h
  unfold Flight.result at hz range ⊢
  simp only at hz range ⊢
  rw [hz, range]
  simp [targetAccepted]

/-- The source of a round by the set it uses (R76, R78, R84). -/
theorem Flight.source_of_settled (h : (f.used c id quiet).1 = .settled) :
    (f.result c id quiet).source = if (f.result c id quiet).accepted then .anchors else .ensemble := by
  have source : (f.result c id quiet).source = sourceOf f.byRef (f.used c id quiet).1 (f.result c id quiet).accepted := rfl
  rw [source, f.byRef_of_used c id quiet (.inl h), h]
  rfl

theorem Flight.source_of_cold (h : (f.used c id quiet).1 = .cold) : (f.result c id quiet).source = .cold := by
  have source : (f.result c id quiet).source = sourceOf f.byRef (f.used c id quiet).1 (f.result c id quiet).accepted := rfl
  rw [source, f.byRef_of_used c id quiet (.inr h), h]
  rfl

theorem Flight.source_of_byRef (h : f.byRef = true) : (f.result c id quiet).source = .ref := if_pos h

theorem Flight.source_of_unused (h : (f.used c id quiet).1 = .none) (hb : f.byRef = false) :
    (f.result c id quiet).source = .none := by
  have source : (f.result c id quiet).source = sourceOf f.byRef (f.used c id quiet).1 (f.result c id quiet).accepted := rfl
  rw [source, h, hb]
  rfl

/-- A round whose source is ENSEMBLE or COLD uses a set. -/
theorem Flight.used_of_source (h : (f.result c id quiet).source = .ensemble ∨ (f.result c id quiet).source = .cold) :
    (f.used c id quiet).1 ≠ .none := by
  intro none
  cases hb : f.byRef with
  | true => rw [Flight.source_of_byRef hb] at h; simp at h
  | false => rw [Flight.source_of_unused none hb] at h; simp at h

/-! ## The correction and the round estimate (R82, R84, R90) -/

theorem Ends.le {l : List SetLane} {low high : Int} (h : Ends l low high) : low ≤ high := h.mean.1.trans h.mean.2

/-- A number is half of a spread in whole nanoseconds, rounded up (R90). -/
def Halved (low high : Int) (h : Nat) : Prop := high - low ≤ 8 * (h : Int) ∧ 8 * (h : Int) < high - low + 8

theorem Halved.halfSpread_eq {low high : Int} {h : Nat} (half : Halved low high h) (ordered : low ≤ high) :
    (Range.mk low high).halfSpread = h := by
  obtain ⟨least, below⟩ := half
  simp only [Range.halfSpread, ceilDiv]
  omega

section Taken

variable (taken : f.overtaken = false)
include taken

theorem Flight.result_correction : (f.result c id quiet).correction =
    correctionOf f (f.result c id quiet).source (meanOf (f.result c id quiet).kept) (f.result c id quiet).anchor :=
  if_neg (taken ▸ Bool.false_ne_true)

theorem Flight.result_estimate : (f.result c id quiet).estimate =
    estimateOf c (f.result c id quiet).source (rangeOf (f.result c id quiet).kept) (f.result c id quiet).anchor :=
  if_neg (taken ▸ Bool.false_ne_true)

/-- Where the source is ENSEMBLE or COLD, the aggregate is the correction (R82). -/
theorem Flight.correction_of_aggregate
    (h : (f.result c id quiet).source = .ensemble ∨ (f.result c id quiet).source = .cold) :
    (f.result c id quiet).correction = some (meanOf (f.result c id quiet).kept) := by
  rw [Flight.result_correction taken]
  rcases h with h | h <;> rw [h] <;> rfl

/-- The round estimate where the source is ENSEMBLE or COLD (R90). -/
theorem Flight.estimate_of_aggregate {low high : Int} {h : Nat}
    (source : (f.result c id quiet).source = .ensemble ∨ (f.result c id quiet).source = .cold)
    (ends : Ends (f.result c id quiet).kept low high) (half : Halved low high h) :
    (f.result c id quiet).estimate = some (min 2147483647 h) := by
  rw [Flight.result_estimate taken, rangeOf_of_ends (f.kept_sorted c id quiet) ends, ← half.halfSpread_eq ends.le]
  rcases source with source | source <;> rw [source] <;> rfl

/-- The round estimate of an accepted anchored target (R90). -/
theorem Flight.estimate_of_anchors {z : AnchorStage} {h : Nat} (source : (f.result c id quiet).source = .anchors)
    (hz : (f.result c id quiet).anchor = some z) (half : Halved z.subset.kept.low z.subset.kept.high h)
    (ordered : z.subset.kept.low ≤ z.subset.kept.high) :
    (f.result c id quiet).estimate = some (min 2147483647 (h + 2 ^ (z.subset.bestClass.toNat + 3))) := by
  rw [Flight.result_estimate taken, source, hz, ← half.halfSpread_eq ordered]
  rfl

end Taken

/-- An overtaken or starved round has no correction and no estimate (R79, R90). -/
theorem Flight.result_absent (h : f.overtaken = true ∨ ((f.used c id quiet).1 = .none ∧ f.byRef = false)) :
    (f.result c id quiet).correction = none ∧ (f.result c id quiet).estimate = none := by
  cases taken : f.overtaken with
  | true => exact ⟨if_pos taken, if_pos taken⟩
  | false =>
    obtain ⟨none, hb⟩ := h.resolve_left (by simp [taken])
    have source : (f.result c id quiet).source = .none := Flight.source_of_unused none hb
    rw [Flight.result_correction taken, Flight.result_estimate taken, source]
    exact ⟨rfl, rfl⟩

/-! ## The publication (R72, R92) -/

/-- The completion of the round in flight (R72). -/
theorem State.exec_roundCompletion {s : State} {e : Elapsed} (hh : (s.elapse e).pins.resetAsserted = false)
    (hr : (s.elapse e).steer.nodeState.running = true) (hf : (s.elapse e).round.flight = some f) :
    exec (.roundCompletion e) s = .next ((s.elapse e).complete f) := by
  simp only [exec, execRoundCompletion, hf, State.running_of _ hh hr, if_true]

/-- What a completion publishes is its summary. -/
theorem State.complete_published (s : State) (h : s.running = true) : (s.complete f).round.published = s.summaryOf f := by
  rw [s.complete_round f h]

/-- Settles O31: the correction is the mean of the kept lanes, among which trimming leaves no value beyond the sound ones. -/
theorem faultyLanesCannotMoveCorrection : Obligations.FaultyLanesCannotMoveCorrection := by
  intro e s f faulty low high u lanes hh hr hf taken source few sound
  have enough : 2 * u.config.tolerance < lanes.length := f.used_enough _ _ _ (Flight.used_of_source source)
  refine ⟨u.complete f, _, State.exec_roundCompletion hh hr hf, ?_, mean_of_trimmed few enough sound⟩
  rw [State.complete_published u (u.running_of hh hr)]
  exact Flight.correction_of_aggregate taken source

/-- What a completion publishes of the round's aggregate and target, and SPLIT where the target is refused (R84, R92). -/
theorem State.complete_publishes (s : State) (h : s.running = true) :
    let r := f.result s.config s.ownId s.round.quiet
    let m := (s.complete f).round.published
    m.source = r.source ∧ m.setUsed = r.setUsed ∧ m.size = (f.used s.config s.ownId s.round.quiet).2.length ∧
      m.correction = r.correction ∧ m.aggregate = (if f.byRef then none else r.aggregate) ∧ m.roundEstimate = r.estimate ∧
      m.anchored = r.anchor.map (·.subset) ∧
      m.target = (r.anchor.map fun a => (a.target, if r.accepted then .accepted else .split)) ∧
      (f.overtaken = false → r.split = true → (s.complete f).flag 3 = true) := by
  intro r m
  have published : m = s.summaryOf f := s.complete_published h
  rw [published]
  refine ⟨rfl, rfl, rfl, rfl, rfl, rfl, rfl, rfl, fun taken refused => ?_⟩
  have target := (f.summary_target_split s.config s.ownId s.round.quiet s.round.published).mp refused
  exact (s.complete_flag f 3).mpr (.inr (.inr (.inr ⟨rfl, taken, target⟩)))

/-! ## The statements -/

/-- The aggregate of a set that is used lies among the kept values, and is the correction where no anchored target takes its place
(R82). -/
theorem Flight.aggregate_spec (used : (f.used c id quiet).1 ≠ .none) : let r := f.result c id quiet
    r.kept ≠ [] ∧ r.aggregate = some (meanOf r.kept) ∧ (∃ x ∈ r.kept, x.value ≤ meanOf r.kept) ∧
      (∃ x ∈ r.kept, meanOf r.kept ≤ x.value) ∧
      (f.overtaken = false → r.setUsed = .cold ∨ (r.setUsed = .settled ∧ r.accepted = false) →
        r.correction = some (meanOf r.kept)) := by
  intro r
  have nonempty : r.kept ≠ [] := f.kept_ne_nil c id quiet used
  obtain ⟨g, -, ends⟩ := rangeOf_ends (f.kept_sorted c id quiet) nonempty
  obtain ⟨low, high⟩ := ends.mean
  obtain ⟨⟨x, hx, least⟩, ⟨y, hy, largest⟩, -⟩ := ends
  refine ⟨nonempty, if_neg nonempty, ⟨x, hx, least.trans_le low⟩, ⟨y, hy, high.trans_eq largest.symm⟩,
    fun taken which => ?_⟩
  refine Flight.correction_of_aggregate taken ?_
  rcases which with cold | ⟨settled, refused⟩
  · exact .inr (Flight.source_of_cold cold)
  · exact .inl ((Flight.source_of_settled settled).trans (if_neg (by simpa using refused)))

/-- The parts of an anchored target's statement: its subset, whether it is accepted, and what it then makes of the round (R83, R84,
R90). -/
theorem Flight.anchored_spec {best : Nat} (hu : (f.used c id quiet).1 = .settled)
    (hit : ∃ x ∈ anchoredLanes (f.used c id quiet).2, x.anchorClass = best)
    (least : ∀ x ∈ anchoredLanes (f.used c id quiet).2, best ≤ x.anchorClass) :
    let r := f.result c id quiet
    let a := (anchoredLanes (f.used c id quiet).2).filter fun x => x.anchorClass = best
    let fa := (a.length - 1) / 2
    let kept := ((sortLanes a).drop fa).take (a.length - 2 * fa)
    let target := halfEven (kept.map (·.value)).sum (a.length - 2 * fa)
    (∃ z, r.anchor = some z ∧ z.target = target ∧ z.subset.bestClass.toNat = best ∧ z.subset.size = a.length ∧
      z.subset.fa = fa ∧ Ends kept z.subset.kept.low z.subset.kept.high) ∧
    r.split = !r.accepted ∧
    (∀ low high, Ends r.kept low high →
      (r.accepted = true ↔ low - c.splitBound ≤ target ∧ target ≤ high + c.splitBound)) ∧
    (r.accepted = true → r.source = .anchors ∧ (f.overtaken = false → r.correction = some target ∧
      ∀ low high h, Ends kept low high → Halved low high h → r.estimate = some (min 2147483647 (h + 2 ^ (best + 3))))) := by
  intro r a fa kept target
  obtain ⟨z, stage, mean, bestClass, size, trims, ends⟩ := anchorStage_spec hit least
  have anchor : r.anchor = some z := (if_pos hu).trans stage
  rw [keep_sortLanes] at ends
  have hz : z.target = target := by rw [mean, meanOf_keep, keep_sortLanes]
  refine ⟨⟨z, anchor, hz, bestClass, size, trims, ends⟩, ?_, fun low high range => ?_, fun accepted => ?_⟩
  · rw [RoundResult.split, anchor]
    rfl
  · rw [← hz]
    exact Flight.accepted_iff anchor range
  · have source : r.source = .anchors := by
      rw [Flight.source_of_settled hu]
      exact if_pos accepted
    refine ⟨source, fun taken => ⟨?_, fun low high h range half => ?_⟩⟩
    · rw [Flight.result_correction taken, source, anchor, ← hz]
      rfl
    · obtain ⟨rfl, rfl⟩ := ends.unique range
      rw [← bestClass]
      exact Flight.estimate_of_anchors taken source anchor half ends.le

/-- Settles O30: the aggregate by the bounds of a mean, the anchored target by its subset, the summary by its definition. -/
theorem aggregateIsTrimmedMean : Obligations.AggregateIsTrimmedMean := by
  intro f cfg id quiet r lanes kept anchored cls ends halved
  have hkept : r.kept = kept := keep_sortLanes cfg.tolerance lanes
  refine ⟨fun l => ⟨sortLanes_perm l, sortLanes_pairwise l⟩, fun used => ?aggregate, f.result_unanchored cfg id quiet,
    fun settled best hit least => ?anchored,
    fun settled refused => (Flight.source_of_settled settled).trans (if_neg (by simpa using refused)), Flight.source_of_cold,
    fun byRef => ⟨Flight.source_of_byRef byRef, fun taken => ?byRef⟩, fun taken source low high h range half => ?estimate,
    Flight.result_absent, fun e s => ?published⟩
  case aggregate =>
    obtain ⟨nonempty, aggregate, low, high, correction⟩ := Flight.aggregate_spec used
    have mean : meanOf r.kept = halfEven (kept.map (·.value)).sum (lanes.length - 2 * cfg.tolerance) := by
      rw [← hkept]
      exact meanOf_keep cfg.tolerance lanes
    have length : r.kept.length = lanes.length - 2 * cfg.tolerance := (keep_length _ _).trans (by rw [sortLanes_length])
    rw [← hkept] at mean ⊢
    exact ⟨rfl, length, nonempty, _, aggregate, mean, low, high, fun taken _ => correction taken⟩
  case anchored =>
    intro a fa ka target
    rw [← hkept]
    exact Flight.anchored_spec settled hit least
  case byRef =>
    rw [Flight.result_estimate taken, Flight.source_of_byRef byRef]
    rfl
  case estimate =>
    rw [← hkept] at range
    exact Flight.estimate_of_aggregate taken source range half
  case published =>
    intro u hh hr hf hc hid hq
    subst hc hid hq
    exact ⟨u.complete f, State.exec_roundCompletion hh hr hf, u.complete_publishes (u.running_of hh hr)⟩

end Sys2Proof.Machine
end

section
/-! SUPPORT. The completion work on one slot, stage by stage: misses, suspicion, verdict and ages (R53, R61 to R65). -/

namespace Sys2Proof.Machine

variable (x : Slot) (cfg : ConfigRecord) (c : Option Int) (mark : Option Bool)

/-! ## Misses and liveness (R61) -/

/-- The misses of a slot after a completion: one more, at most 32, after a round without a copy of it (R61). -/
def Slot.missesAfter : Nat := if x.round = ⟨none, none⟩ then min 32 (x.misses + 1) else 0

/-- The liveness that the misses leave (R61). -/
def Slot.livenessAfter : Liveness :=
  if 3 ≤ x.missesAfter ∧ (x.liveness = .heard ∨ x.liveness = .active) then .silent else x.liveness

/-- The slot with both. -/
def Slot.missed : Slot := { x with misses := x.missesAfter, liveness := x.livenessAfter }

theorem Slot.heardFrom_eq_false : x.heardFrom = false ↔ x.round = ⟨none, none⟩ := by
  rcases h : x.round with ⟨a, b⟩
  cases a <;> cases b <;> simp [Slot.heardFrom, h]

theorem Slot.missesAfter_eq : (if x.heardFrom then 0 else satSucc 32 x.misses) = x.missesAfter := by
  unfold Slot.missesAfter satSucc
  cases h : x.heardFrom with
  | false => rw [if_pos (x.heardFrom_eq_false.mp h)]; rfl
  | true => rw [if_neg fun none => Bool.false_ne_true ((x.heardFrom_eq_false.mpr none).symm.trans h)]; rfl

variable {x}

theorem Slot.countMiss_of_vacant (h : x.liveness = .vacant) : x.countMiss = x := if_pos h

theorem Slot.countMiss_of_expired (hv : x.liveness ≠ .vacant) (hm : x.missesAfter = 32) :
    x.countMiss = { x with misses := 32 }.vacate := by
  simp only [Slot.countMiss, if_neg hv, x.missesAfter_eq, hm, if_true]

theorem Slot.countMiss_of_live (hv : x.liveness ≠ .vacant) (hm : x.missesAfter ≠ 32) :
    x.countMiss = x.missed := by
  simp only [Slot.countMiss, if_neg hv, x.missesAfter_eq, if_neg hm, Slot.missed, Slot.livenessAfter]
  split <;> rfl

theorem Slot.livenessAfter_ne_vacant (hv : x.liveness ≠ .vacant) : x.livenessAfter ≠ .vacant := by
  unfold Slot.livenessAfter
  split
  · nofun
  · exact hv

variable (x)

/-! ## Suspicion (R62, R63) -/

/-- The suspicion, trims and agreements after a completion that finds a slot not suspect: a lane kept clears its trims, one trimmed
counts, and the eighth makes the slot suspect (R62). -/
def Slot.TrustedAfter (suspect : Bool) (trims agreements : Nat) : Prop :=
  (mark = some true → trims = 0) ∧
  (mark = some false → x.trims < 7 → trims = x.trims + 1) ∧
  (mark = some false → 7 ≤ x.trims → suspect = true ∧ trims = 0 ∧ agreements = 0) ∧
  (mark ≠ some true → mark ≠ some false → trims = x.trims) ∧
  (¬(mark = some false ∧ 7 ≤ x.trims) → suspect = false ∧ agreements = x.agreements)

/-- The same for a slot found suspect: a lane within the agreement band of the correction counts, the eighth clears the suspicion,
and one beyond it clears the count (R63). -/
def Slot.SuspectAfter (suspect : Bool) (trims agreements : Nat) : Prop :=
  (∀ k l, c = some k → x.lane = some l →
    ((cfg.band : Int) < |l.value - k| → suspect = true ∧ agreements = 0 ∧ trims = x.trims) ∧
    (|l.value - k| ≤ cfg.band → x.agreements < 7 → suspect = true ∧ agreements = x.agreements + 1 ∧ trims = x.trims) ∧
    (|l.value - k| ≤ cfg.band → 7 ≤ x.agreements → suspect = false ∧ agreements = 0 ∧ trims = 0)) ∧
  (c = none ∨ x.lane = none → suspect = true ∧ agreements = x.agreements ∧ trims = x.trims)

theorem Slot.judge_of_trusted (h : x.suspect = false) : let y := x.judge cfg c mark
    x.TrustedAfter mark y.suspect y.trims y.agreements := by
  have judged : x.judge cfg c mark = x.countTrim mark := if_neg (h ▸ Bool.false_ne_true)
  rw [judged]
  unfold Slot.TrustedAfter
  match mark with
  | none => simp [Slot.countTrim, h]
  | some true => simp [Slot.countTrim, h]
  | some false =>
    by_cases full : 7 ≤ x.trims
    · have count : satSucc 8 x.trims = 8 := by unfold satSucc; omega
      simp [Slot.countTrim, count, full, not_lt.mpr full]
    · have count : satSucc 8 x.trims = x.trims + 1 := by unfold satSucc; omega
      have below : x.trims ≠ 7 := by omega
      simp [Slot.countTrim, count, full, below, h]

theorem Slot.judge_of_suspect (h : x.suspect = true) : let y := x.judge cfg c mark
    x.SuspectAfter cfg c y.suspect y.trims y.agreements := by
  have judged : x.judge cfg c mark = x.countAgreement cfg c := if_pos h
  rw [judged]
  refine ⟨fun k l hc hl => ⟨fun apart => ?apart, fun near few => ?more, fun near full => ?cleared⟩, fun absent => ?absent⟩
  case apart => simp [Slot.countAgreement, hc, hl, not_le.mpr apart, h]
  case more =>
    have count : satSucc 8 x.agreements = x.agreements + 1 := by unfold satSucc; omega
    have below : x.agreements ≠ 7 := by omega
    simp [Slot.countAgreement, hc, hl, near, count, below, h]
  case cleared =>
    have count : satSucc 8 x.agreements = 8 := by unfold satSucc; omega
    simp [Slot.countAgreement, hc, hl, near, count]
  case absent =>
    have same : x.countAgreement cfg c = x := by
      unfold Slot.countAgreement
      split
      · next hl => simp [hl] at absent
      · rfl
    rw [same]
    exact ⟨h, rfl, rfl⟩

/-! ## The verdict (R64, R65) -/

/-- Whether one of a slot's two round copies has a property. -/
theorem Slot.any_roundCopy_iff (q : Copy → Bool) :
    (x.round.toList.any fun o => o.any q) = true ↔ ∃ p k, x.round.get p = some k ∧ q k = true := by
  simp only [Pair.toList, List.any_cons, List.any_nil, Bool.or_false, Bool.or_eq_true, Option.any_eq_true]
  constructor
  · rintro (⟨k, h⟩ | ⟨k, h⟩)
    · exact ⟨.a, k, h⟩
    · exact ⟨.b, k, h⟩
  · rintro ⟨p, k, h⟩
    cases p
    · exact .inl ⟨k, h⟩
    · exact .inr ⟨k, h⟩

/-- A slot's SUMMARY is set where its lane was trimmed, or void for a copy that was congested or out of bound (R65). -/
theorem Slot.setsSummary_iff : x.setsSummary mark = true ↔ mark = some false ∨ (x.lane = none ∧
    ∃ (p : PortId) (k : Copy), x.round.get p = some k ∧
      ((k.estimate ≠ none ∧ k.congested = true) ∨ k.bounded = true)) := by
  rw [Slot.setsSummary, Bool.or_eq_true, Bool.and_eq_true, x.any_roundCopy_iff]
  simp [Option.isSome_iff_ne_none]

theorem Slot.writeVerdict_of_vacant (h : x.liveness = .vacant) : x.writeVerdict cfg c mark = x := if_pos h

/-- The verdict of a completion on a slot that is not VACANT: where its lane lies by the correction, and its SUMMARY (R64, R65). -/
def Slot.VerdictAfter (v : Verdict) : Prop :=
  (∀ k l, c = some k → x.lane = some l →
    (v.ahead = true ↔ (cfg.band : Int) < l.value - k) ∧ (v.behind = true ↔ l.value - k < -(cfg.band : Int)) ∧
    (v.level = true ↔ |l.value - k| ≤ cfg.band)) ∧
  (c = none ∨ x.lane = none → v.ahead = false ∧ v.behind = false ∧ v.level = false) ∧
  (v.summary = true ↔ x.verdict.summary = true ∨ mark = some false ∨ (x.lane = none ∧
    ∃ (p : PortId) (k : Copy), x.round.get p = some k ∧ ((k.estimate ≠ none ∧ k.congested = true) ∨ k.bounded = true)))

theorem Slot.writeVerdict_spec (h : x.liveness ≠ .vacant) :
    x.VerdictAfter cfg c mark (x.writeVerdict cfg c mark).verdict := by
  unfold Slot.VerdictAfter
  rw [← x.setsSummary_iff mark, ← Bool.or_eq_true]
  simp only [Slot.writeVerdict, if_neg h]
  split
  · next k l hl =>
    refine ⟨fun k' l' hc hl' => ?_, fun absent => ?_, Iff.rfl⟩
    · cases hc
      obtain rfl := Option.some.inj (hl.symm.trans hl')
      simp [abs_le, and_comm]
    · simp [hl] at absent
  · next absent => exact ⟨fun k l hc hl => (absent k l hc hl).elim, fun _ => ⟨rfl, rfl, rfl⟩, Iff.rfl⟩

/-- Suspicion has no part in the verdict. -/
theorem Slot.writeVerdict_judge : ((x.judge cfg c mark).writeVerdict cfg c mark).verdict = (x.writeVerdict cfg c mark).verdict := by
  obtain ⟨b, n, a, judged⟩ := x.judge_eq cfg c mark
  rw [judged]
  unfold Slot.writeVerdict
  split
  · rfl
  · simp only
    split <;> rfl

/-! ## The whole work (R60) -/

/-- The samples of a window a completion later (R53). -/
def ageWindow (w : List Sample) : List Sample := w.filterMap Sample.grow

/-- The samples' ages as R53 says them. -/
theorem ageWindow_eq (w : List Sample) : ageWindow w = w.filterMap fun z => match z.age with
    | none => some (if z.closed then { z with age := some 0 } else z)
    | some a => if 32 ≤ a then none else some { z with age := some (a + 1) } := by
  unfold ageWindow
  congr
  funext z
  unfold Sample.grow
  cases z.age with
  | none => cases z.closed <;> rfl
  | some a => by_cases h : 32 ≤ a <;> simp [h]

variable {x}

/-- What the work makes of a slot whose misses leave it as `z`. -/
theorem Slot.complete_of_countMiss {z : Slot} (hz : { x with lastLane := x.lane }.countMiss = z) :
    x.complete cfg c mark = { z with
      suspect := (z.judge cfg c mark).suspect, trims := (z.judge cfg c mark).trims
      agreements := (z.judge cfg c mark).agreements, verdict := (z.writeVerdict cfg c mark).verdict
      windows := z.windows.map ageWindow
      liveness := if z.liveness = .active ∧ z.windows.map ageWindow = ⟨[], []⟩ then .heard else z.liveness } := by
  have verdict := z.writeVerdict_judge cfg c mark
  obtain ⟨b, n, a, judged⟩ := z.judge_eq cfg c mark
  obtain ⟨v, written⟩ := (z.judge cfg c mark).writeVerdict_eq cfg c mark
  unfold Slot.complete
  rw [hz, ← verdict, written, judged]
  simp only [Slot.ageSamples, Pair.map, Pair.mk.injEq]
  rfl

/-- The lane a slot had is its last lane after the work. -/
theorem Slot.complete_lastLane (x : Slot) : (x.complete cfg c mark).lastLane = x.lane := by
  rw [Slot.complete_of_countMiss cfg c mark rfl]
  rcases Slot.countMiss_cases { x with lastLane := x.lane } with ⟨m, l, h⟩ | ⟨m, h⟩ <;> simp only [h, Slot.vacate]

/-- The work leaves the verdict of a slot that is VACANT once its misses are counted. -/
theorem Slot.complete_of_vacated {z : Slot} (hz : { x with lastLane := x.lane }.countMiss = z) (hv : z.liveness = .vacant) :
    x.complete cfg c mark = { z with
      suspect := (z.judge cfg c mark).suspect, trims := (z.judge cfg c mark).trims
      agreements := (z.judge cfg c mark).agreements, windows := z.windows.map ageWindow } := by
  have idle : ¬(z.liveness = .active ∧ z.windows.map ageWindow = ⟨[], []⟩) := fun h => absurd (hv.symm.trans h.1) nofun
  rw [Slot.complete_of_countMiss cfg c mark hz, z.writeVerdict_of_vacant cfg c mark hv, if_neg idle]

/-- A VACANT slot stays so (R61). -/
theorem Slot.complete_of_vacant (h : x.liveness = .vacant) : let y := x.complete cfg c mark
    y.liveness = .vacant ∧ y.misses = x.misses ∧ y.verdict = x.verdict := by
  have vacant : { x with lastLane := x.lane }.liveness = .vacant := h
  rw [Slot.complete_of_vacated cfg c mark (Slot.countMiss_of_vacant vacant) vacant]
  exact ⟨h, rfl, rfl⟩

/-- A slot whose 32nd round passes without a copy becomes VACANT (R61). -/
theorem Slot.complete_of_expired (hv : x.liveness ≠ .vacant) (hm : x.missesAfter = 32) : let y := x.complete cfg c mark
    y = { x with
      liveness := .vacant, suspect := false, windows := ⟨[], []⟩, current := y.current, round := ⟨none, none⟩
      prev := ⟨none, none⟩, lane := none, lastLane := x.lane, misses := 0, trims := y.trims, agreements := 0
      verdict := { ahead := false, behind := false, level := false, summary := x.verdict.summary }
      counters := y.counters } ∧ (mark ≠ some false → y.trims = 0) := by
  have missed := Slot.countMiss_of_expired (x := { x with lastLane := x.lane }) hv hm
  rw [Slot.complete_of_vacated cfg c mark missed rfl]
  generalize hz : Slot.vacate { x with lastLane := x.lane, misses := 32 } = z
  have none_before : z.trims = 0 := by rw [← hz]; rfl
  obtain ⟨kept, -, -, unmarked, trusted⟩ := z.judge_of_trusted cfg c mark (by rw [← hz]; rfl)
  obtain ⟨suspect, agreements⟩ := trusted fun h => absurd h.2 (by omega)
  refine ⟨by rw [suspect, agreements, ← hz]; rfl, fun untrimmed => ?_⟩
  by_cases hk : mark = some true
  · exact kept hk
  · exact (unmarked hk untrimmed).trans none_before

/-- A slot that is not VACANT and does not become so (R61 to R65). -/
theorem Slot.complete_of_live (hv : x.liveness ≠ .vacant) (hm : x.missesAfter ≠ 32) : let y := x.complete cfg c mark
    y = { x with
      liveness := y.liveness, suspect := y.suspect, windows := x.windows.map ageWindow, current := y.current
      lastLane := x.lane, misses := x.missesAfter, trims := y.trims, agreements := y.agreements, verdict := y.verdict
      counters := y.counters } ∧
    y.liveness = (if x.livenessAfter = .active ∧ y.windows = ⟨[], []⟩ then .heard else x.livenessAfter) ∧
    (x.suspect = false → x.TrustedAfter mark y.suspect y.trims y.agreements) ∧
    (x.suspect = true → x.SuspectAfter cfg c y.suspect y.trims y.agreements) ∧
    x.VerdictAfter cfg c mark y.verdict := by
  have missed := Slot.countMiss_of_live (x := { x with lastLane := x.lane }) hv hm
  rw [Slot.complete_of_countMiss cfg c mark missed]
  generalize hz : Slot.missed { x with lastLane := x.lane } = z
  have trusted := z.judge_of_trusted cfg c mark
  have doubted := z.judge_of_suspect cfg c mark
  have written := z.writeVerdict_spec cfg c mark (hz ▸ Slot.livenessAfter_ne_vacant hv)
  subst hz
  exact ⟨rfl, rfl, trusted, doubted, written⟩

end Sys2Proof.Machine
end

section
/-! SUPPORT. The completion work on every slot, by the round's report, and the starved round (R60 to R65, R79, R89). -/

namespace Sys2Proof.Machine

/-! ## The report of a round (R89) -/

/-- A lane of a node other than the own one, in a list of lanes. -/
def HasPeer (l : List SetLane) (i : Fin 16) : Prop := ∃ x ∈ l, x.status ≠ none ∧ x.id = i

theorem contains_peers_iff (l : List SetLane) (i : Fin 16) :
    ((l.filter fun x => x.status.isSome).map (·.id)).contains i = true ↔ HasPeer l i := by
  simp [HasPeer, Option.isSome_iff_ne_none, and_assoc]

variable (r : RoundResult) (i : Fin 16)

/-- The mark of a slot: its lane was kept, or it was trimmed and none was kept; an overtaken round leaves none (R62, R89). -/
theorem RoundResult.mark_eq : r.report.mark i =
    if r.overtaken = true then none
    else if ((r.kept.filter fun x => x.status.isSome).map (·.id)).contains i then some true
    else if ((r.trimmed.filter fun x => x.status.isSome).map (·.id)).contains i then some false else none := by
  unfold RoundResult.report
  split
  · rfl
  · rfl

theorem mark_of_flags : ∀ overtaken kept trimmed : Bool,
    let m : Option Bool := if overtaken = true then none
      else if kept = true then some true else if trimmed = true then some false else none
    (m = some true ↔ overtaken = false ∧ kept = true) ∧
      (m = some false ↔ overtaken = false ∧ trimmed = true ∧ ¬(overtaken = false ∧ kept = true)) := by
  decide

/-- Which slots the report marks as kept, and which as trimmed. -/
theorem RoundResult.mark_spec : (r.report.mark i = some true ↔ r.overtaken = false ∧ HasPeer r.kept i) ∧
    (r.report.mark i = some false ↔
      r.overtaken = false ∧ HasPeer r.trimmed i ∧ ¬(r.overtaken = false ∧ HasPeer r.kept i)) := by
  rw [r.mark_eq, ← contains_peers_iff, ← contains_peers_iff]
  exact mark_of_flags _ _ _

variable (s : State) (f : Flight)

theorem Flight.report_correction (c : ConfigRecord) (id : Fin 16) (quiet : Nat) :
    (f.result c id quiet).report.correction = (f.result c id quiet).correction := by
  unfold RoundResult.report
  split
  · next overtaken => exact (f.result_absent (.inl overtaken)).1.symm
  · rfl

/-! ## The slots after a completion (R60) -/

variable {s} in
/-- The issue of the decision moves of a slot its current-round copies and its counters, which a STEP moves (R56). -/
theorem State.issued_slot (h : s.running = true) :
    ∃ a b, (s.issued f).slots[i] = { s.slots[i] with current := a, counters := b } := by
  rcases s.issued_spec f h with ⟨-, e⟩ | ⟨a, -, -, e⟩ | ⟨g, -, e⟩ <;> rw [e]
  · exact ⟨s.slots[i].current, s.slots[i].counters, by simp⟩
  · have stepped : ∃ cfg st now, ((((s.judged f).recorded (s.decided f).steer).setClock
        { s.clock with slew := none }).takeStep a).slots[i] = s.slots[i].onStep cfg st a now := ⟨_, _, _, by simp; rfl⟩
    obtain ⟨cfg, st, now, slot⟩ := stepped
    exact ⟨_, _, slot.trans (Slot.onStep_eq _ _ _ _ _)⟩
  · obtain ⟨t, w, k, slewed⟩ := ((s.judged f).recorded (s.decided f).steer).slewed_eq
      (rateStepOf s.config g ((f.result s.config s.ownId s.round.quiet).correction.getD 0))
      (clampTo s.config.slewLimit ((f.result s.config s.ownId s.round.quiet).correction.getD 0))
    rw [slewed]
    exact ⟨s.slots[i].current, s.slots[i].counters, by simp⟩

theorem State.issued_config (h : s.running = true) : (s.issued f).config = s.config := by
  rw [s.issued_frame f h]
  rfl

/-- A slot after a completion: the work of R60, by the round's correction and the slot's mark, on a slot that the issue of the
decision has left but for its current-round copies and its counters. -/
theorem State.complete_slot_eq (h : s.running = true) : let r := f.result s.config s.ownId s.round.quiet
    ∃ a b, (s.complete f).slots[i] =
      Slot.complete { s.slots[i] with current := a, counters := b } s.config r.correction (r.report.mark i) := by
  intro r
  obtain ⟨k, fields, -⟩ := s.complete_fields f
  obtain ⟨a, b, slot⟩ := s.issued_slot i f h
  have worked : (s.complete f).slots[i] =
      (s.issued f).slots[i].complete (s.issued f).config r.report.correction (r.report.mark i) := by
    rw [fields]
    exact completeSlots_get _ r.report _ i
  exact ⟨a, b, by rw [worked, slot, s.issued_config f h, f.report_correction]⟩

/-! ## Starved rounds (R79) -/

/-- What a round without a set gives. -/
theorem Flight.result_of_starved {c : ConfigRecord} {id : Fin 16} {quiet : Nat} (hb : f.byRef = false)
    (hu : f.used c id quiet = (.none, [])) : let r := f.result c id quiet
    r.source = .none ∧ r.setUsed = .none ∧ r.size = 0 ∧ r.kept = [] ∧ r.trimmed = [] ∧ r.correction = none ∧
      r.estimate = none := by
  have unused : (f.used c id quiet).1 = .none := congrArg Prod.fst hu
  have empty : (f.used c id quiet).2 = [] := congrArg Prod.snd hu
  obtain ⟨correction, estimate⟩ := f.result_absent (.inr ⟨unused, hb⟩)
  refine ⟨f.source_of_unused unused hb, unused, congrArg List.length empty, ?_, ?_, correction, estimate⟩
  · exact congrArg (fun l => keep c.tolerance (sortLanes l)) empty |>.trans (by simp [sortLanes, keep])
  · exact congrArg (fun l => setAside c.tolerance (sortLanes l)) empty |>.trans (by simp [sortLanes, setAside])

/-- In a starved round a slot that does not become VACANT keeps trims and suspicion. -/
theorem Slot.complete_of_starved {x : Slot} {cfg : ConfigRecord} (h : (x.complete cfg none none).liveness ≠ .vacant) :
    (x.complete cfg none none).trims = x.trims ∧ (x.complete cfg none none).suspect = x.suspect := by
  have occupied : x.liveness ≠ .vacant := fun vacant => h (Slot.complete_of_vacant cfg none none vacant).1
  have live : x.missesAfter ≠ 32 := fun expired => h (by rw [(Slot.complete_of_expired cfg none none occupied expired).1])
  obtain ⟨-, -, trusted, doubted, -⟩ := Slot.complete_of_live cfg none none occupied live
  cases hs : x.suspect with
  | false =>
    obtain ⟨-, -, -, trims, suspect⟩ := trusted hs
    exact ⟨trims nofun nofun, (suspect nofun).1⟩
  | true =>
    obtain ⟨suspect, -, trims⟩ := (doubted hs).2 (.inl rfl)
    exact ⟨trims, suspect⟩

/-- What a completion publishes and sets in a starved round, and what every slot keeps. -/
theorem State.complete_of_starved {s : State} {f : Flight} (h : s.running = true) (taken : f.overtaken = false)
    (hb : f.byRef = false) (hu : f.used s.config s.ownId s.round.quiet = (.none, [])) : let t := s.complete f
    let m := t.round.published
    t.flag 0 = true ∧ m.source = .none ∧ m.setUsed = .none ∧ m.size = 0 ∧ m.correction = none ∧ m.aggregate = none ∧
      m.trimmed = [] ∧ m.kept = none ∧ m.roundEstimate = none ∧
      ∀ i : Fin 16, t.slots[i].liveness ≠ .vacant → t.slots[i].trims = s.slots[i].trims ∧
        t.slots[i].suspect = s.slots[i].suspect := by
  intro t m
  obtain ⟨source, setUsed, size, kept, trimmed, correction, estimate⟩ := f.result_of_starved hb hu
  have published : m = s.summaryOf f := s.complete_published h
  rw [published]
  refine ⟨(s.complete_flag f 0).mpr (.inr (.inr (.inl ⟨rfl, source, taken⟩))), source, setUsed, size, correction, ?aggregate,
    ?trimmed, ?kept, estimate, fun i occupied => ?slot⟩
  case aggregate =>
    have aggregate : (s.summaryOf f).aggregate = if f.byRef then none else (f.result s.config s.ownId s.round.quiet).aggregate :=
      rfl
    rw [aggregate, RoundResult.aggregate, kept, if_pos rfl, ite_self]
  case trimmed =>
    have ids : (s.summaryOf f).trimmed = sortIds ((f.result s.config s.ownId s.round.quiet).trimmed.map (·.id)) := rfl
    rw [ids, trimmed]
    rfl
  case kept =>
    have range : (s.summaryOf f).kept = rangeOf (f.result s.config s.ownId s.round.quiet).kept := rfl
    rw [range, kept]
    rfl
  case slot =>
    obtain ⟨a, b, slot⟩ := s.complete_slot_eq i f h
    have mark : (f.result s.config s.ownId s.round.quiet).report.mark i = none := by
      rw [RoundResult.mark_eq, kept, trimmed]
      simp
    rw [mark, correction] at slot
    simp only [t, slot] at occupied ⊢
    exact Slot.complete_of_starved occupied

/-! ## SUSPECT (R62) -/

/-- A completion sets SUSPECT where some slot becomes suspect, and nowhere else. -/
theorem State.complete_suspect {s : State} {f : Flight} (h : s.running = true) : (s.complete f).flag 14 = true ↔
    s.flag 14 = true ∨ ∃ i : Fin 16, s.slots[i].suspect = false ∧ (s.complete f).slots[i].suspect = true := by
  have flag := s.complete_flag_iff f h 14
  simpa using flag

/-! ## The statement -/

/-- Settles O29: the sets by their members, the starved round by its result, and each slot by the cases of its misses. -/
theorem starvedRoundHolds : Obligations.StarvedRoundHolds := by
  intro e s f u g settled relaxed offers settledOffer known set sizeS sizeC sizeSp q used cold hh hr hf
  have run : u.running = true := u.running_of hh hr
  refine ⟨u.complete f, State.exec_roundCompletion hh hr hf, ?_⟩
  intro m
  have published : m = u.summaryOf f := u.complete_published run
  refine ⟨f.setS_spec u.ownId, f.setC_spec u.ownId, ⟨f.candidates_nodup.filter _, f.mem_settledLanes⟩, f.byRef_iff,
    f.coldConsidered_iff g u.ownId u.round.quiet, rfl, f.peerRange_disabled g, f.peerRange_starved g,
    fun enabled enough => ?peerRange, by rw [published]; exact ⟨rfl, rfl, rfl, rfl⟩,
    fun taken hb fewS fewC => State.complete_of_starved run taken hb (f.used_of_starved _ _ _ hb fewS fewC),
    fun new => (State.complete_suspect run).mpr (.inr new), fun old => ?unsuspected, fun i => ?slot⟩
  case peerRange =>
    obtain ⟨z, range, ends⟩ := f.peerRange_kept g enabled enough
    rw [keep_sortLanes] at ends
    exact ⟨z, range, ends⟩
  case unsuspected =>
    rw [Bool.eq_iff_iff, State.complete_suspect run]
    refine or_iff_left ?_
    rintro ⟨i, before, after⟩
    rw [old i before] at after
    cases after
  case slot =>
    intro x y r misses kept trimmed aged marked
    obtain ⟨a, b, slot⟩ := u.complete_slot_eq i f run
    obtain ⟨hk, ht⟩ := r.mark_spec i
    obtain ⟨v, hv, hy⟩ : ∃ v : Slot, v = { x with current := a, counters := b } ∧
        y = v.complete g r.correction (r.report.mark i) := ⟨_, rfl, slot⟩
    have correction : m.correction = r.correction := by rw [published]; rfl
    have ages : aged = ageWindow := (funext ageWindow_eq).symm
    have kept_iff : kept ↔ r.report.mark i = some true := hk.symm
    have trimmed_iff : trimmed ↔ r.report.mark i = some false := ht.symm
    have lastLane := v.complete_lastLane g r.correction (r.report.mark i)
    have vacant := Slot.complete_of_vacant (x := v) g r.correction (r.report.mark i)
    have expired := Slot.complete_of_expired (x := v) g r.correction (r.report.mark i)
    have live := Slot.complete_of_live (x := v) g r.correction (r.report.mark i)
    rw [correction, ages, kept_iff, trimmed_iff]
    simp only [← hy] at lastLane vacant expired live
    clear_value y
    subst hv
    exact ⟨lastLane, vacant, expired, live⟩

end Sys2Proof.Machine
end

section
/-! SUPPORT. The epoch offer (R87): the full-width values of the close, their mean and agreement, and the UTC values that most of
the agreeing carry. -/

namespace Sys2Proof.Machine

variable (f : Flight) (c : ConfigRecord)

/-! ## Full-width values -/

/-- A round copy from which a slot may give a full-width value, with its port's filtered delay (R87). -/
def Flight.FullWidthCopy (i : Fin 16) (p : PortId) (y : Copy) (d : Nat) : Prop := f.slots[i].round.get p = some y ∧
  (y.status.state = .track ∨ y.status.state = .holdover ∨ y.status.state = .anchored) ∧ y.status.epochKnown = true ∧
  filteredDelay (f.slots[i].windows.get p) = some d ∧ y.congested = false ∧ y.ingressStep = f.stepCount

/-- A slot of the close gives this full-width value, from the copy that R58 prefers among those from which it may (R87). -/
def Flight.GivesFullWidth (l : SetLane) : Prop := f.slots[l.id].liveness = .active ∧ f.slots[l.id].suspect = false ∧
  ∃ (p : PortId) (y : Copy) (d : Nat), f.FullWidthCopy l.id p y d ∧ l.value = y.fullWidth d ∧ l.status = some y.status ∧
    ∀ q y' d', q ≠ p → f.FullWidthCopy l.id q y' d' →
      (y'.checked = true → y.checked = true) ∧ (y.checked = y'.checked → d ≤ d' ∧ (d = d' → p = .a))

theorem Flight.fullWidthCopy_iff (i : Fin 16) (p : PortId) (y : Copy) (d : Nat) : f.FullWidthCopy i p y d ↔
    f.slots[i].round.get p = some y ∧ f.admits f.slots[i] p y = true ∧ f.slots[i].delays.get p = some d := by
  have delay : f.slots[i].delays.get p = filteredDelay (f.slots[i].windows.get p) := Pair.get_map _ _ p
  simp only [Flight.FullWidthCopy, Flight.admits, delay, Bool.and_eq_true, SenderState.settled_iff, Bool.not_eq_true',
    decide_eq_true_eq]
  constructor
  · rintro ⟨held, settled, known, some_, clear, step⟩
    exact ⟨held, ⟨⟨⟨⟨settled, known⟩, by rw [some_]; rfl⟩, clear⟩, step⟩, some_⟩
  · rintro ⟨held, ⟨⟨⟨⟨settled, known⟩, -⟩, clear⟩, step⟩, some_⟩
    exact ⟨held, settled, known, some_, clear, step⟩

/-- The copies on the two ports cannot each be preferred to the other. -/
theorem Copy.PreferredTo.port_eq {y z : Copy} {p q : PortId} {d e : Nat} (h : y.PreferredTo z p (some d) (some e))
    (h' : z.PreferredTo y q (some e) (some d)) : p = q := by
  have alike : y.checked = z.checked := Bool.eq_iff_iff.mpr ⟨h'.1, h.1⟩
  obtain ⟨le, first⟩ := h.2 alike
  obtain ⟨le', first'⟩ := h'.2 alike.symm
  have same : d = e := le_antisymm le le'
  exact (first same).trans (first' same.symm).symm

theorem Flight.fullWidthLane_eq_some (i : Fin 16) (z : SetLane) :
    f.fullWidthLane i = some z ↔ z.id = i ∧ f.GivesFullWidth z := by
  have admitted {p : PortId} {y : Copy} (h : f.admits f.slots[i] p y = true) : ∃ d, f.slots[i].delays.get p = some d := by
    simp only [Flight.admits, Bool.and_eq_true] at h
    exact Option.isSome_iff_exists.mp h.1.1.2
  unfold Flight.fullWidthLane
  simp only [Bool.not_eq_true']
  constructor
  · intro h
    obtain ⟨⟨active, clear⟩, chosen⟩ := Option.ite_none_right_eq_some.mp h
    rcases chooseCopy_spec (f.admits f.slots[i]) f.slots[i].round f.slots[i].delays with
      ⟨void, -⟩ | ⟨p, y, choice, held, fit, first⟩
    · rw [void] at chosen; cases chosen
    · obtain ⟨d, delay⟩ := admitted fit
      rw [choice] at chosen
      simp only [delay, Option.map_some, Option.some.injEq] at chosen
      subst chosen
      refine ⟨rfl, active, clear, p, y, d, (f.fullWidthCopy_iff i p y d).mpr ⟨held, fit, delay⟩, rfl, rfl,
        fun q y' d' other copy => ?_⟩
      obtain ⟨held', fit', delay'⟩ := (f.fullWidthCopy_iff i q y' d').mp copy
      have order := first q y' other held' fit'
      rw [delay, delay'] at order
      exact order
  · rintro ⟨rfl, active, clear, p, y, d, copy, value, status, preferred⟩
    obtain ⟨held, fit, delay⟩ := (f.fullWidthCopy_iff z.id p y d).mp copy
    rw [if_pos ⟨active, clear⟩]
    rcases chooseCopy_spec (f.admits f.slots[z.id]) f.slots[z.id].round f.slots[z.id].delays with
      ⟨-, excluded⟩ | ⟨q, y', choice, held', fit', first⟩
    · exact absurd (fit.symm.trans (excluded p y held)) nofun
    · obtain ⟨d', delay'⟩ := admitted fit'
      have same : q = p := by
        by_contra other
        have order := first p y (Ne.symm other) held fit
        rw [delay, delay'] at order
        exact other (order.port_eq (preferred q y' d' other ((f.fullWidthCopy_iff z.id q y' d').mpr ⟨held', fit', delay'⟩)))
      subst same
      obtain rfl : y = y' := Option.some.inj (held.symm.trans held')
      simp only [choice, delay, Option.map_some, ← value, ← status]

theorem Flight.mem_epochSet (z : SetLane) : z ∈ f.epochSet ↔ f.GivesFullWidth z := by
  simp [Flight.epochSet, List.mem_filterMap, f.fullWidthLane_eq_some]

theorem Flight.epochSet_ascending : f.epochSet.Pairwise fun a b => a.id < b.id := by
  refine List.pairwise_filterMap.mpr ((List.pairwise_lt_finRange 16).imp fun less a ha b hb => ?_)
  rw [((f.fullWidthLane_eq_some _ a).mp ha).1, ((f.fullWidthLane_eq_some _ b).mp hb).1]
  exact less

/-! ## The UTC values that most lanes carry -/

/-- Whether a lane carries these UTC values. -/
def SetLane.carries (v : UtcValues) (l : SetLane) : Bool := l.status.any fun st => decide (v = st.utc)

theorem SetLane.carries_iff (v : UtcValues) (l : SetLane) : l.carries v = true ↔ l.status.map PeerStatus.utc = some v := by
  cases h : l.status <;> simp [SetLane.carries, h, eq_comm]

theorem countUtc_eq (l : List SetLane) (v : UtcValues) : countUtc l v = (l.filter (SetLane.carries v)).length := by
  unfold countUtc
  congr 2
  funext x
  rw [Bool.eq_iff_iff, decide_eq_true_eq, SetLane.carries_iff]

/-- Whether no UTC values are carried by more lanes of a set than those of this lane. -/
def SetLane.leads (l : List SetLane) (x : SetLane) : Bool :=
  (x.status.map PeerStatus.utc).any fun u => (l.filterMap fun x => x.status.map PeerStatus.utc).all fun v =>
    decide (countUtc l v ≤ countUtc l u)

theorem SetLane.leads_iff (l : List SetLane) (x : SetLane) : x.leads l = true ↔
    ∃ u, x.carries u = true ∧ ∀ v, countUtc l v ≤ countUtc l u := by
  simp only [SetLane.leads, Option.any_eq_true, List.all_eq_true, decide_eq_true_eq, SetLane.carries_iff]
  refine exists_congr fun u => and_congr_right fun _ => ⟨fun all v => ?_, fun all v _ => all v⟩
  by_cases carried : v ∈ l.filterMap fun x => x.status.map PeerStatus.utc
  · exact all v carried
  · have none_ : countUtc l v = 0 := by
      simpa [countUtc, List.filter_eq_nil_iff] using carried
    omega

/-- Some lane of a set of peers carries the values that most carry. -/
theorem exists_leads {l : List SetLane} {x : SetLane} (hx : x ∈ l) (peer : x.status ≠ none) : ∃ z ∈ l, z.leads l = true := by
  obtain ⟨st, status⟩ := Option.ne_none_iff_exists'.mp peer
  have nonempty : (l.filterMap fun x => x.status.map PeerStatus.utc).toFinset.Nonempty :=
    ⟨st.utc, List.mem_toFinset.mpr (List.mem_filterMap.mpr ⟨x, hx, by rw [status]; rfl⟩)⟩
  obtain ⟨u, carried, most⟩ := Finset.exists_max_image _ (countUtc l) nonempty
  obtain ⟨z, hz, utc⟩ := List.mem_filterMap.mp (List.mem_toFinset.mp carried)
  refine ⟨z, hz, ?_⟩
  simp only [SetLane.leads, utc, Option.any_some, List.all_eq_true, decide_eq_true_eq]
  exact fun v hv => most v (List.mem_toFinset.mpr hv)

/-- The common UTC values of a set of peers by ascending id: the most carried, on a tie those of the lowest id that carries any
of the tied (R87). -/
theorem commonUtc_spec {l : List SetLane} (ascending : l.Pairwise fun a b => a.id < b.id) (nonempty : l ≠ [])
    (peers : ∀ x ∈ l, x.status ≠ none) : (∀ v, countUtc l v ≤ countUtc l (commonUtc l)) ∧
    ∃ z ∈ l, z.carries (commonUtc l) = true ∧
      ∀ w ∈ l, ∀ v, w.carries v = true → countUtc l v = countUtc l (commonUtc l) → z.id ≤ w.id := by
  obtain ⟨x, hx⟩ := List.exists_mem_of_ne_nil l nonempty
  obtain ⟨z, found⟩ : ∃ z, l.find? (SetLane.leads l) = some z :=
    Option.isSome_iff_exists.mp (List.find?_isSome.mpr (exists_leads hx (peers x hx)))
  obtain ⟨leads, before, after, split, first⟩ := List.find?_eq_some_iff_append.mp found
  obtain ⟨u, carried, most⟩ := (z.leads_iff l).mp leads
  have common : commonUtc l = u := by
    have found' : (l.filterMap fun x => x.status.map PeerStatus.utc).find? (fun u =>
        (l.filterMap fun x => x.status.map PeerStatus.utc).all fun v => decide (countUtc l v ≤ countUtc l u)) = some u := by
      rw [List.find?_filterMap]
      exact (congrArg (Option.bind · _) found).trans ((z.carries_iff u).mp carried)
    simp only [commonUtc]
    rw [found', Option.getD_some]
  rw [common]
  refine ⟨most, z, List.mem_of_find?_eq_some found, carried, fun w hw v carries tied => ?_⟩
  have lead : w.leads l = true := (w.leads_iff l).mpr ⟨v, carries, fun v' => tied ▸ most v'⟩
  rw [split] at hw ascending
  rcases List.mem_append.mp hw with early | late
  · exact absurd lead (by simpa using first w early)
  · rcases List.mem_cons.mp late with rfl | later
    · exact le_rfl
    · exact ((List.pairwise_cons.mp (List.pairwise_append.mp ascending).2.1).1 w later).le

/-! ## The offer -/

/-- The mean of the epoch set, trimmed by half of all but one at each end (R87). -/
def Flight.epochMean : Int := meanOf (keep ((f.epochSet.length - 1) / 2) (sortLanes f.epochSet))

/-- The lanes of the epoch set within the agreement band of their mean (R87). -/
def Flight.agreeingLanes : List SetLane := f.epochSet.filter fun x => decide (|x.value - f.epochMean| ≤ (c.band : Int))

theorem Flight.seeksEpoch_iff : f.seeksEpoch = true ↔
    f.epochKnown = false ∧ (f.nodeState = .acquire ∨ f.nodeState = .track ∨ f.nodeState = .holdover) := by
  simp [Flight.seeksEpoch, or_assoc]

theorem Flight.offer_eq_some (o : EpochOffer) : f.offer c = some o ↔
    (f.seeksEpoch = true ∧ c.tolerance + 1 ≤ f.epochSet.length ∧ c.tolerance + 1 ≤ (f.agreeingLanes c).length) ∧
      o = { mean := f.epochMean, agreeing := (f.agreeingLanes c).length, utc := commonUtc (f.agreeingLanes c) } := by
  have offer : f.offer c = if f.seeksEpoch ∧ c.tolerance + 1 ≤ f.epochSet.length then
      if c.tolerance + 1 ≤ (f.agreeingLanes c).length then
        some { mean := f.epochMean, agreeing := (f.agreeingLanes c).length, utc := commonUtc (f.agreeingLanes c) }
      else none
    else none := rfl
  rw [offer]
  simp only [Option.ite_none_right_eq_some, Option.some.injEq, eq_comm (a := o), and_assoc]

theorem Flight.offer_ne_none_iff : f.offer c ≠ none ↔
    f.seeksEpoch = true ∧ c.tolerance + 1 ≤ f.epochSet.length ∧ c.tolerance + 1 ≤ (f.agreeingLanes c).length := by
  simp only [Option.ne_none_iff_exists', f.offer_eq_some c, exists_and_left, exists_eq, and_true]

/-- The mean of the epoch set, written out (R82). -/
theorem Flight.epochMean_eq : let l := f.epochSet; let k := (l.length - 1) / 2; let n := l.length - 2 * k
    f.epochMean = halfEven ((((sortLanes l).drop k).take n).map (·.value)).sum n := by
  intro l k n
  rw [Flight.epochMean, meanOf_keep, keep_sortLanes]

/-- The agreeing lanes of an offer stand by ascending id, and each is a peer's. -/
theorem Flight.agreeingLanes_spec : ((f.agreeingLanes c).Pairwise fun a b => a.id < b.id) ∧
    ∀ x ∈ f.agreeingLanes c, x.status ≠ none := by
  refine ⟨f.epochSet_ascending.filter _, fun x hx => ?_⟩
  obtain ⟨-, -, p, y, d, -, -, status, -⟩ := (f.mem_epochSet x).mp (List.mem_filter.mp hx).1
  rw [status]
  nofun

/-- What an epoch offer holds (R87). -/
theorem Flight.offer_spec {o : EpochOffer} (h : f.offer c = some o) :
    let number (v : UtcValues) : Nat := ((f.agreeingLanes c).filter (SetLane.carries v)).length
    o.mean = f.epochMean ∧ o.agreeing = (f.agreeingLanes c).length ∧ (∀ v, number v ≤ number o.utc) ∧
      ∃ z ∈ f.agreeingLanes c, z.carries o.utc = true ∧
        ∀ w ∈ f.agreeingLanes c, ∀ v, w.carries v = true → number v = number o.utc → z.id ≤ w.id := by
  obtain ⟨⟨-, -, enough⟩, rfl⟩ := (f.offer_eq_some c o).mp h
  obtain ⟨ascending, peers⟩ := f.agreeingLanes_spec c
  obtain ⟨most, common⟩ := commonUtc_spec ascending (List.ne_nil_of_length_pos (by omega)) peers
  simp only [countUtc_eq] at most common
  exact ⟨rfl, rfl, most, common⟩

/-- No lane of S knows the epoch in a round that makes an offer: none of them differs from the node (R75, R87). -/
theorem Flight.setS_unknown (id : Fin 16) (h : f.offer c ≠ none) : ∀ x ∈ f.setS id, x.known = false := by
  obtain ⟨unknown, state⟩ := f.seeksEpoch_iff.mp ((f.offer_ne_none_iff c).mp h).1
  intro x hx
  rcases ((f.setS_spec id).2 x).mp hx with ⟨⟨⟨l, -, -, status, -, -, epoch⟩, -⟩, -⟩ | ⟨-, rfl⟩
  · have listening : f.nodeState ≠ .listen := by rcases state with h | h | h <;> rw [h] <;> nofun
    have same := epoch.resolve_left fun relaxed => listening relaxed.1
    simp [SetLane.known, status, same, unknown]
  · rfl

end Sys2Proof.Machine
end

section
/-! SUPPORT. The decision of a completion, equation by equation: the ordinary decisions of Table 5-3, the precedence of R98, and
what each moves in the record (R96, R103 to R110). -/

namespace Sys2Proof.Machine

variable (x : Steering) (cfg : ConfigRecord) (r : RoundResult)

/-! ## Moves (R96) -/

/-- A change of the node state or of REF selected (R96). -/
def Steering.Moves (x : Steering) (st : NodeState) (selected : Bool) : Prop := st ≠ x.nodeState ∨ selected ≠ x.refSelected

theorem Steering.move_of_moves {st : NodeState} {selected : Bool} (h : x.Moves st selected) : x.move st selected =
    { x with
      nodeState := st, refSelected := selected, listenCount := 0, agreementCount := 0, excessCount := 0
      holdoverAge := if st = .holdover ∧ x.nodeState ≠ .holdover then 1 else 0, atLimitCount := 0 } :=
  if_neg (not_and_or.mpr h)

theorem Steering.move_of_not_moves {st : NodeState} {selected : Bool} (h : ¬x.Moves st selected) : x.move st selected = x := by
  rw [Steering.Moves, not_or, not_ne_iff, not_ne_iff] at h
  exact if_pos h

@[simp] theorem Steering.move_epochKnown (st : NodeState) (selected : Bool) : (x.move st selected).epochKnown = x.epochKnown := by
  by_cases h : x.Moves st selected
  · rw [x.move_of_moves h]
  · rw [x.move_of_not_moves h]

/-! ## What a decision moves in the record -/

/-- The counter that Table 5-2 moves in the record's state is moved, nothing else. -/
def Steering.Counted (x z : Steering) : Prop := ∃ l a k h,
  z = { x with listenCount := l, agreementCount := a, excessCount := k, holdoverAge := h } ∧
    (x.nodeState ≠ .listen → l = x.listenCount) ∧ (x.nodeState ≠ .acquire → a = x.agreementCount) ∧
    (x.nodeState ≠ .track → k = x.excessCount) ∧ (x.nodeState ≠ .holdover → h = x.holdoverAge)

/-- A decision's record: one counted, then moved to a node state, perhaps its own, with this REF selected (R96). -/
def Steering.Follows (x : Steering) (selected : Bool) (y : Steering) : Prop := ∃ z st, x.Counted z ∧ y = z.move st selected

variable {x}

theorem Steering.Counted.refl : x.Counted x := ⟨_, _, _, _, rfl, fun _ => rfl, fun _ => rfl, fun _ => rfl, fun _ => rfl⟩

theorem Steering.Counted.move {z : Steering} (h : x.Counted z) (st : NodeState) (selected : Bool) :
    x.Follows selected (z.move st selected) := ⟨z, st, h, rfl⟩

theorem Steering.Counted.follows {z : Steering} (h : x.Counted z) : x.Follows x.refSelected z := by
  obtain ⟨l, a, k, h, rfl, counters⟩ := h
  exact ⟨_, x.nodeState, ⟨l, a, k, h, rfl, counters⟩, (Steering.move_of_not_moves _ (by simp [Steering.Moves])).symm⟩

theorem Steering.counted_of_listen (hn : x.nodeState = .listen) (l : Nat) : x.Counted { x with listenCount := l } :=
  ⟨l, _, _, _, rfl, fun h => absurd hn h, fun _ => rfl, fun _ => rfl, fun _ => rfl⟩

theorem Steering.counted_of_acquire (hn : x.nodeState = .acquire) (a : Nat) : x.Counted { x with agreementCount := a } :=
  ⟨_, a, _, _, rfl, fun _ => rfl, fun h => absurd hn h, fun _ => rfl, fun _ => rfl⟩

theorem Steering.counted_of_track (hn : x.nodeState = .track) (k : Nat) : x.Counted { x with excessCount := k } :=
  ⟨_, _, k, _, rfl, fun _ => rfl, fun _ => rfl, fun h => absurd hn h, fun _ => rfl⟩

theorem Steering.counted_of_holdover (hn : x.nodeState = .holdover) : x.Counted x.age :=
  ⟨_, _, _, _, rfl, fun _ => rfl, fun _ => rfl, fun _ => rfl, fun h => absurd hn h⟩

variable (x)

/-! ## LISTEN (R103) -/

theorem Steering.inListen_of_none (h : r.correction = none) :
    x.inListen r = ({ x with listenCount := min 4 (x.listenCount + 1) } : Steering).hold := by
  simp only [Steering.inListen, h]
  rfl

theorem Steering.inListen_of_few {c : Int} (h : r.correction = some c) (few : x.listenCount < 3) :
    x.inListen r = ({ x with listenCount := x.listenCount + 1 } : Steering).hold := by
  have next : satSucc 4 x.listenCount = x.listenCount + 1 := by unfold satSucc; omega
  have below : x.listenCount + 1 ≠ 4 := by omega
  simp only [Steering.inListen, h, next, below, if_false]

theorem Steering.inListen_of_fourth {c : Int} (h : r.correction = some c) (fourth : 3 ≤ x.listenCount) : x.inListen r =
    (({ x with epochKnown := x.epochKnown || r.epochKnownSet, listenCount := 4 } : Steering).move .acquire
      x.refSelected).step c := by
  have next : satSucc 4 x.listenCount = 4 := by unfold satSucc; omega
  simp only [Steering.inListen, h, next, if_true]

/-! ## ACQUIRE with REF selected clear (R104) -/

theorem Steering.inAcquire_of_none (h : r.correction = none) : x.inAcquire cfg r = x.hold := by
  simp only [Steering.inAcquire, h]

theorem Steering.inAcquire_of_beyond {c : Int} (h : r.correction = some c) (beyond : ¬|c| ≤ cfg.stepThreshold) :
    x.inAcquire cfg r = ({ x with agreementCount := 0 } : Steering).step c := by
  simp only [Steering.inAcquire, h, ConfigRecord.withinThreshold, decide_eq_true_eq, beyond, if_false]

/-- The agreement count after a correction (R104, R109). -/
def Steering.agreementAfter (x : Steering) (cfg : ConfigRecord) (c : Int) : Nat :=
  if |c| ≤ cfg.band then min 8 (x.agreementCount + 1) else 0

theorem Steering.agree_eq (c : Int) : x.agree cfg c = { x with agreementCount := x.agreementAfter cfg c } := by
  simp only [Steering.agree, ConfigRecord.withinBand, decide_eq_true_eq]
  rfl

/-- The record that agrees eight rounds long moves on, another stays (R104, R109). -/
def Steering.promote (x : Steering) (n : Nat) (st : NodeState) (selected : Bool) : Steering :=
  let x1 := { x with agreementCount := n }
  if n = 8 then x1.move st selected else x1

theorem Steering.inAcquire_of_within {c : Int} (h : r.correction = some c) (within : |c| ≤ cfg.stepThreshold) :
    x.inAcquire cfg r = (x.promote (x.agreementAfter cfg c) .track false).correct cfg cfg.acquireGain c := by
  simp only [Steering.inAcquire, h, ConfigRecord.withinThreshold, decide_eq_true_eq, within, if_true, x.agree_eq]
  rfl

/-! ## TRACK (R105) -/

theorem Steering.inTrack_of_none (h : r.correction = none) : x.inTrack cfg r = (x.move .holdover x.refSelected).hold := by
  simp only [Steering.inTrack, h]

theorem Steering.inTrack_of_within {c : Int} (h : r.correction = some c) (within : |c| ≤ cfg.stepThreshold) :
    x.inTrack cfg r = ({ x with excessCount := 0 } : Steering).correct cfg cfg.trackGain c := by
  simp only [Steering.inTrack, h, ConfigRecord.withinThreshold, decide_eq_true_eq, within, if_true]

theorem Steering.inTrack_of_few {c : Int} (h : r.correction = some c) (beyond : ¬|c| ≤ cfg.stepThreshold)
    (few : x.excessCount < 2) : x.inTrack cfg r = ({ x with excessCount := x.excessCount + 1 } : Steering).hold := by
  have next : satSucc 3 x.excessCount = x.excessCount + 1 := by unfold satSucc; omega
  have below : x.excessCount + 1 ≠ 3 := by omega
  simp only [Steering.inTrack, h, ConfigRecord.withinThreshold, decide_eq_true_eq, beyond, next, below, if_false]

theorem Steering.inTrack_of_third {c : Int} (h : r.correction = some c) (beyond : ¬|c| ≤ cfg.stepThreshold)
    (third : 2 ≤ x.excessCount) :
    x.inTrack cfg r = (({ x with excessCount := 3 } : Steering).move .acquire x.refSelected).step c := by
  have next : satSucc 3 x.excessCount = 3 := by unfold satSucc; omega
  simp only [Steering.inTrack, h, ConfigRecord.withinThreshold, decide_eq_true_eq, beyond, next, if_false, if_true]

/-! ## HOLDOVER (R106) -/

theorem Steering.inHoldover_of_none (h : r.correction = none) : x.inHoldover cfg r = x.age.hold := by
  simp only [Steering.inHoldover, h]

theorem Steering.inHoldover_of_within {c : Int} (h : r.correction = some c) (within : |c| ≤ cfg.stepThreshold) :
    x.inHoldover cfg r = (x.move .track x.refSelected).correct cfg cfg.trackGain c := by
  simp only [Steering.inHoldover, h, ConfigRecord.withinThreshold, decide_eq_true_eq, within, if_true]

theorem Steering.inHoldover_of_beyond {c : Int} (h : r.correction = some c) (beyond : ¬|c| ≤ cfg.stepThreshold) :
    x.inHoldover cfg r = (x.move .acquire x.refSelected).step c := by
  simp only [Steering.inHoldover, h, ConfigRecord.withinThreshold, decide_eq_true_eq, beyond, if_false]

/-! ## Rounds steered by REF (R109) -/

theorem Steering.inAcquireRef_of_within {c : Int} (h : r.correction = some c) (within : |c| ≤ cfg.stepThreshold)
    (offset : Option Int) : x.inAcquireRef cfg r offset.isSome =
      (x.promote (if offset = none then x.agreementCount else x.agreementAfter cfg c) .anchored true).correct cfg
        cfg.acquireGain c := by
  simp only [Steering.inAcquireRef, h, Option.getD_some, ConfigRecord.withinThreshold, decide_eq_true_eq, within, if_true,
    x.agree_eq]
  cases offset <;> rfl

theorem Steering.inAcquireRef_of_beyond {c : Int} (h : r.correction = some c) (beyond : ¬|c| ≤ cfg.stepThreshold) (fresh : Bool) :
    x.inAcquireRef cfg r fresh = ({ x with agreementCount := 0 } : Steering).step c := by
  simp only [Steering.inAcquireRef, h, Option.getD_some, ConfigRecord.withinThreshold, decide_eq_true_eq, beyond, if_false]

theorem Steering.inAnchored_of_within {c : Int} (h : r.correction = some c) (within : |c| ≤ cfg.stepThreshold) :
    x.inAnchored cfg r = x.correct cfg cfg.trackGain c := by
  simp only [Steering.inAnchored, h, Option.getD_some, ConfigRecord.withinThreshold, decide_eq_true_eq, within, if_true]

theorem Steering.inAnchored_of_beyond {c : Int} (h : r.correction = some c) (beyond : ¬|c| ≤ cfg.stepThreshold) :
    x.inAnchored cfg r = (x.move .acquire true).step c := by
  simp only [Steering.inAnchored, h, Option.getD_some, ConfigRecord.withinThreshold, decide_eq_true_eq, beyond, if_false]

/-! ## The entry on the reference (R108) -/

variable (offset : Option Int)

theorem Steering.enter_of_early (hn : x.nodeState = .listen ∨ x.nodeState = .acquire) :
    x.enter cfg r offset = some (x.move .acquire true).hold := by
  rcases hn with hn | hn <;> simp only [Steering.enter, hn]

theorem Steering.enter_of_outside {o : Int} (hn : x.nodeState = .track ∨ x.nodeState = .holdover)
    (outside : (cfg.band : Int) < |o|) : x.enter cfg r (some o) = some (x.move .acquire true).hold := by
  rcases hn with hn | hn <;>
    simp only [Steering.enter, hn, ConfigRecord.withinBand, decide_eq_true_eq, not_le.mpr outside, if_false]

theorem Steering.enter_of_inside {o : Int} (hn : x.nodeState = .track ∨ x.nodeState = .holdover) (inside : |o| ≤ cfg.band) :
    (∀ c, r.correction = some c → |c| ≤ cfg.stepThreshold →
      x.enter cfg r (some o) = some ((x.move .anchored true).correct cfg cfg.trackGain c)) ∧
    ((∀ c, r.correction = some c → ¬|c| ≤ cfg.stepThreshold) → x.enter cfg r (some o) = some (x.move .anchored true).hold) := by
  refine ⟨fun c hc within => ?_, fun beyond => ?_⟩
  · rcases hn with hn | hn <;>
      simp only [Steering.enter, hn, hc, ConfigRecord.withinBand, ConfigRecord.withinThreshold, decide_eq_true_eq, inside, within,
        if_true]
  · cases hc : r.correction with
    | none =>
      rcases hn with hn | hn <;> simp only [Steering.enter, hn, hc, ConfigRecord.withinBand, decide_eq_true_eq, inside, if_true]
    | some c =>
      rcases hn with hn | hn <;>
        simp only [Steering.enter, hn, hc, ConfigRecord.withinBand, ConfigRecord.withinThreshold, decide_eq_true_eq, inside,
          beyond c hc, if_true, if_false]

/-- The entry takes place (R108). -/
def Steering.Enters (x : Steering) (offset : Option Int) : Prop := x.nodeState = .listen ∨ x.nodeState = .acquire ∨
  ((x.nodeState = .track ∨ x.nodeState = .holdover) ∧ offset ≠ none)

theorem Steering.enter_of_enters (h : x.Enters offset) : ∃ d, x.enter cfg r offset = some d := by
  rcases h with listen | acquire | ⟨late, fresh⟩
  · exact ⟨_, x.enter_of_early cfg r offset (.inl listen)⟩
  · exact ⟨_, x.enter_of_early cfg r offset (.inr acquire)⟩
  · obtain ⟨o, rfl⟩ := Option.ne_none_iff_exists'.mp fresh
    rcases lt_or_ge (cfg.band : Int) |o| with outside | inside
    · exact ⟨_, x.enter_of_outside cfg r late outside⟩
    · obtain ⟨correct, hold⟩ := x.enter_of_inside cfg r late inside
      by_cases within : ∃ c, r.correction = some c ∧ |c| ≤ cfg.stepThreshold
      · obtain ⟨c, hc, near⟩ := within
        exact ⟨_, correct c hc near⟩
      · exact ⟨_, hold fun c hc near => within ⟨c, hc, near⟩⟩

theorem Steering.enter_of_not_enters (h : ¬x.Enters offset) : x.enter cfg r offset = none := by
  unfold Steering.Enters at h
  cases hn : x.nodeState
  case listen | acquire => simp [hn] at h
  case track | holdover =>
    obtain rfl : offset = none := by simpa [hn] using h
    simp only [Steering.enter, hn]
  case warmup | config | anchored | fault => simp only [Steering.enter, hn]

/-! ## Precedence (R98) -/

theorem refUsable_iff (ref : RefState) :
    refUsable cfg ref x = true ↔ cfg.refEnable = true ∧ ref = .valid ∧ x.epochKnown = true := by
  simp [refUsable, and_assoc]

/-- An epoch offer is adopted in this record (R107). -/
def Steering.Adopts (x : Steering) (o : Option EpochOffer) : Prop := x.epochKnown = false ∧ o ≠ none ∧
  (x.nodeState = .acquire ∨ x.nodeState = .track ∨ x.nodeState = .holdover)

theorem Steering.adopts_iff (o : Option EpochOffer) : x.Adopts o ↔ o ≠ none ∧ x.mayAdopt = true := by
  simp [Steering.Adopts, Steering.mayAdopt, or_assoc, and_left_comm]

variable {x cfg r offset} {ref : RefState}

theorem Steering.decideRound_of_overtaken (h : r.overtaken = true) : x.decideRound cfg ref r offset = x.overtaken := if_pos h

section Taken

variable (taken : r.overtaken = false)
include taken

theorem Steering.decideRound_of_adopts {o : EpochOffer} (h : x.Adopts r.offer) (ho : r.offer = some o) :
    x.decideRound cfg ref r offset = x.adoptEpoch o := by
  have may : x.mayAdopt = true := ((x.adopts_iff r.offer).mp h).2
  simp only [Steering.decideRound, taken, ho, Option.filter_some, may, if_true, Bool.false_eq_true, if_false]

/-- Without an adoption the reference and then the node state decide (R98, steps 3 and 4). -/
theorem Steering.decideRound_of_not_adopts (h : ¬x.Adopts r.offer) : x.decideRound cfg ref r offset =
    if x.refSelected then
      if refUsable cfg ref x then x.ordinary cfg r offset.isSome else x.release r.peerRange
    else if refUsable cfg ref x then (x.enter cfg r offset).getD (x.ordinary cfg r offset.isSome)
    else x.ordinary cfg r offset.isSome := by
  have none_ : (r.offer.filter fun _ => x.mayAdopt) = none := by
    rw [x.adopts_iff, not_and] at h
    exact Option.filter_eq_none_iff.mpr fun o ho => h (by rw [ho]; nofun)
  simp only [Steering.decideRound, taken, none_, Bool.false_eq_true, if_false]

theorem Steering.decideRound_of_released (h : ¬x.Adopts r.offer) (selected : x.refSelected = true)
    (unusable : ¬refUsable cfg ref x = true) : x.decideRound cfg ref r offset = x.release r.peerRange := by
  rw [Steering.decideRound_of_not_adopts taken h, if_pos selected, if_neg unusable]

theorem Steering.decideRound_of_steered (h : ¬x.Adopts r.offer) (selected : x.refSelected = true)
    (usable : refUsable cfg ref x = true) : x.decideRound cfg ref r offset = x.ordinary cfg r offset.isSome := by
  rw [Steering.decideRound_of_not_adopts taken h, if_pos selected, if_pos usable]

theorem Steering.decideRound_of_entered (h : ¬x.Adopts r.offer) (clear : x.refSelected = false)
    (usable : refUsable cfg ref x = true) {d : Decision} (entered : x.enter cfg r offset = some d) :
    x.decideRound cfg ref r offset = d := by
  rw [Steering.decideRound_of_not_adopts taken h, if_neg (by simp [clear]), if_pos usable, entered, Option.getD_some]

theorem Steering.decideRound_of_ordinary (h : ¬x.Adopts r.offer) (clear : x.refSelected = false)
    (stays : ¬refUsable cfg ref x = true ∨ x.enter cfg r offset = none) :
    x.decideRound cfg ref r offset = x.ordinary cfg r offset.isSome := by
  rw [Steering.decideRound_of_not_adopts taken h, if_neg (by simp [clear])]
  split
  · next usable => rw [stays.resolve_left (not_not.mpr usable), Option.getD_none]
  · rfl

end Taken

/-! ## Every decision's record follows the one before (R96) -/

theorem Steering.promote_follows (hn : x.nodeState = .acquire) (n : Nat) (st : NodeState) :
    x.Follows x.refSelected (x.promote n st x.refSelected) := by
  have counted : x.Counted { x with agreementCount := n } := Steering.counted_of_acquire hn n
  simp only [Steering.promote]
  split
  · exact counted.move st _
  · exact counted.follows

/-- Only the end of LISTEN may learn the epoch (R77, R103). -/
theorem Steering.inListen_follows (hn : x.nodeState = .listen) : let y := (x.inListen r).steer
    ∃ e, ({ x with epochKnown := e } : Steering).Follows x.refSelected y ∧
      (e = x.epochKnown ∨ (y.nodeState = .acquire ∧ e = (x.epochKnown || r.epochKnownSet))) := by
  cases hc : r.correction with
  | none =>
    rw [x.inListen_of_none r hc]
    exact ⟨_, (Steering.counted_of_listen hn _).follows, .inl rfl⟩
  | some c =>
    rcases Nat.lt_or_ge x.listenCount 3 with few | fourth
    · rw [x.inListen_of_few r hc few]
      exact ⟨_, (Steering.counted_of_listen hn _).follows, .inl rfl⟩
    · rw [x.inListen_of_fourth r hc fourth]
      have counted := Steering.counted_of_listen (x := { x with epochKnown := x.epochKnown || r.epochKnownSet }) hn 4
      exact ⟨_, counted.move .acquire _, .inr ⟨Steering.move_nodeState _ _ _, rfl⟩⟩

theorem Steering.inAcquire_follows (hn : x.nodeState = .acquire) (clear : x.refSelected = false) :
    x.Follows x.refSelected (x.inAcquire cfg r).steer := by
  cases hc : r.correction with
  | none =>
    rw [x.inAcquire_of_none cfg r hc]
    exact Steering.Counted.refl.follows
  | some c =>
    by_cases within : |c| ≤ cfg.stepThreshold
    · rw [x.inAcquire_of_within cfg r hc within, ← clear]
      exact Steering.promote_follows hn _ .track
    · rw [x.inAcquire_of_beyond cfg r hc within]
      exact (Steering.counted_of_acquire hn 0).follows

theorem Steering.inTrack_follows (hn : x.nodeState = .track) : x.Follows x.refSelected (x.inTrack cfg r).steer := by
  cases hc : r.correction with
  | none =>
    rw [x.inTrack_of_none cfg r hc]
    exact Steering.Counted.refl.move .holdover _
  | some c =>
    by_cases within : |c| ≤ cfg.stepThreshold
    · rw [x.inTrack_of_within cfg r hc within]
      exact (Steering.counted_of_track hn 0).follows
    · rcases Nat.lt_or_ge x.excessCount 2 with few | third
      · rw [x.inTrack_of_few cfg r hc within few]
        exact (Steering.counted_of_track hn _).follows
      · rw [x.inTrack_of_third cfg r hc within third]
        exact (Steering.counted_of_track hn 3).move .acquire _

theorem Steering.inHoldover_follows (hn : x.nodeState = .holdover) : x.Follows x.refSelected (x.inHoldover cfg r).steer := by
  cases hc : r.correction with
  | none =>
    rw [x.inHoldover_of_none cfg r hc]
    exact (Steering.counted_of_holdover hn).follows
  | some c =>
    by_cases within : |c| ≤ cfg.stepThreshold
    · rw [x.inHoldover_of_within cfg r hc within]
      exact Steering.Counted.refl.move .track _
    · rw [x.inHoldover_of_beyond cfg r hc within]
      exact Steering.Counted.refl.move .acquire _

theorem Steering.inAcquireRef_follows (hn : x.nodeState = .acquire) (selected : x.refSelected = true) (fresh : Bool) :
    x.Follows x.refSelected (x.inAcquireRef cfg r fresh).steer := by
  have corrected (n : Nat) : x.Follows x.refSelected (x.promote n .anchored true) :=
    selected ▸ Steering.promote_follows hn n .anchored
  simp only [Steering.inAcquireRef]
  split
  · cases fresh
    · exact corrected x.agreementCount
    · exact corrected (if cfg.withinBand (r.correction.getD 0) then satSucc 8 x.agreementCount else 0)
  · exact (Steering.counted_of_acquire hn 0).follows

theorem Steering.inAnchored_follows : ∃ selected, x.Follows selected (x.inAnchored cfg r).steer := by
  simp only [Steering.inAnchored]
  split
  · exact ⟨_, Steering.Counted.refl.follows⟩
  · exact ⟨_, Steering.Counted.refl.move .acquire true⟩

theorem Steering.ordinary_of_listen (hn : x.nodeState = .listen) (fresh : Bool) : x.ordinary cfg r fresh = x.inListen r := by
  simp only [Steering.ordinary, hn]

theorem Steering.ordinary_of_acquire (hn : x.nodeState = .acquire) (fresh : Bool) : x.ordinary cfg r fresh =
    if x.refSelected then x.inAcquireRef cfg r fresh else x.inAcquire cfg r := by
  simp only [Steering.ordinary, hn]

theorem Steering.ordinary_of_track (hn : x.nodeState = .track) (fresh : Bool) : x.ordinary cfg r fresh = x.inTrack cfg r := by
  simp only [Steering.ordinary, hn]

theorem Steering.ordinary_of_holdover (hn : x.nodeState = .holdover) (fresh : Bool) :
    x.ordinary cfg r fresh = x.inHoldover cfg r := by
  simp only [Steering.ordinary, hn]

theorem Steering.ordinary_of_anchored (hn : x.nodeState = .anchored) (fresh : Bool) :
    x.ordinary cfg r fresh = x.inAnchored cfg r := by
  simp only [Steering.ordinary, hn]

/-- What the ordinary decision can do to the record: the end of LISTEN may learn the epoch where the set used knows it, and outside
ANCHORED REF selected stays. -/
def Steering.OrdinarilyFollows (x : Steering) (known : Bool) (y : Steering) : Prop := ∃ e selected,
  ({ x with epochKnown := e } : Steering).Follows selected y ∧
    (e = x.epochKnown ∨ (x.nodeState = .listen ∧ y.nodeState = .acquire ∧ e = (x.epochKnown || known))) ∧
    (x.nodeState ≠ .anchored → selected = x.refSelected)

theorem Steering.Follows.ordinarily {y : Steering} (h : x.Follows x.refSelected y) (known : Bool) : x.OrdinarilyFollows known y :=
  ⟨x.epochKnown, _, h, .inl rfl, fun _ => rfl⟩

theorem Steering.ordinary_follows (fresh : Bool) : x.OrdinarilyFollows r.epochKnownSet (x.ordinary cfg r fresh).steer := by
  unfold Steering.ordinary
  split
  · next hn =>
    obtain ⟨e, follows, epoch⟩ := Steering.inListen_follows (r := r) hn
    exact ⟨e, _, follows, epoch.imp_right fun h => ⟨hn, h⟩, fun _ => rfl⟩
  · next hn =>
    split
    · next selected => exact (Steering.inAcquireRef_follows hn selected fresh).ordinarily _
    · next clear => exact (Steering.inAcquire_follows hn (eq_false_of_ne_true clear)).ordinarily _
  · next hn => exact (Steering.inTrack_follows hn).ordinarily _
  · next hn => exact (Steering.inHoldover_follows hn).ordinarily _
  · next hn =>
    obtain ⟨selected, follows⟩ := Steering.inAnchored_follows (x := x) (cfg := cfg) (r := r)
    exact ⟨_, selected, follows, .inl rfl, fun away => absurd hn away⟩
  all_goals exact Steering.Counted.refl.follows.ordinarily _

/-- The adoption of an epoch offer takes the epoch and its UTC values first (R107). -/
theorem Steering.adoptEpoch_follows (o : EpochOffer) :
    ({ x with epochKnown := true, utc := o.utc } : Steering).Follows x.refSelected (x.adoptEpoch o).steer := by
  by_cases hn : x.nodeState = .acquire
  · have own : ({ x with epochKnown := true, utc := o.utc } : Steering).move .acquire x.refSelected =
        { x with epochKnown := true, utc := o.utc } := Steering.move_of_not_moves _ (by simp [Steering.Moves, hn])
    have steer : (x.adoptEpoch o).steer = { x with epochKnown := true, utc := o.utc, agreementCount := 0 } := by
      rw [Steering.adoptEpoch, own]
      rfl
    rw [steer]
    exact (Steering.counted_of_acquire (x := { x with epochKnown := true, utc := o.utc }) hn 0).follows
  · have moved := Steering.move_of_moves { x with epochKnown := true, utc := o.utc } (st := .acquire) (selected := x.refSelected)
      (.inl (Ne.symm hn))
    have steer : (x.adoptEpoch o).steer = ({ x with epochKnown := true, utc := o.utc } : Steering).move .acquire x.refSelected := by
      rw [Steering.adoptEpoch, moved]
      rfl
    rw [steer]
    exact Steering.Counted.refl.move .acquire _

theorem Steering.release_follows (range : PeerRange) : x.Follows false (x.release range).steer := by
  unfold Steering.release
  split
  · exact Steering.Counted.refl.move _ false
  · exact Steering.Counted.refl.move _ false

theorem Steering.enter_follows {d : Decision} (h : x.enter cfg r offset = some d) : x.Follows true d.steer := by
  unfold Steering.enter at h
  split at h
  case h_1 | h_2 => cases h; exact Steering.Counted.refl.move .acquire true
  case h_3 | h_4 =>
    split at h
    · cases h
    · split at h
      · split at h
        · split at h <;> cases h <;> exact Steering.Counted.refl.move .anchored true
        · cases h; exact Steering.Counted.refl.move .anchored true
      · cases h; exact Steering.Counted.refl.move .acquire true
  all_goals cases h

/-- Unless an epoch offer is adopted, the decision's record follows the one before but for the epoch that LISTEN may learn,
whichever step of R98 makes it. -/
theorem Steering.decideRound_follows (h : r.overtaken = true ∨ ¬x.Adopts r.offer) :
    ∃ e selected, ({ x with epochKnown := e } : Steering).Follows selected (x.decideRound cfg ref r offset).steer := by
  have plain {selected : Bool} {y : Steering} (h : x.Follows selected y) :
      ∃ e selected, ({ x with epochKnown := e } : Steering).Follows selected y := ⟨x.epochKnown, selected, h⟩
  have ordinary : ∃ e selected,
      ({ x with epochKnown := e } : Steering).Follows selected (x.ordinary cfg r offset.isSome).steer := by
    obtain ⟨e, selected, follows, -⟩ := Steering.ordinary_follows (x := x) (cfg := cfg) (r := r) offset.isSome
    exact ⟨e, selected, follows⟩
  cases taken : r.overtaken with
  | true =>
    rw [Steering.decideRound_of_overtaken taken, Steering.overtaken]
    split
    · next hn => exact plain (Steering.counted_of_holdover hn).follows
    · exact plain Steering.Counted.refl.follows
  | false =>
    rw [Steering.decideRound_of_not_adopts taken (h.resolve_left (by simp [taken]))]
    split
    · split
      · exact ordinary
      · exact plain (Steering.release_follows _)
    · split
      · cases entered : x.enter cfg r offset with
        | none => exact ordinary
        | some d => exact plain (Steering.enter_follows entered)
      · exact ordinary

/-- The counters of a record between two node states and values of REF selected: where one changes they return to 0, else those
that Table 5-2 does not move in the state stay (R96). -/
def Steering.CountersFollow (x y : Steering) : Prop :=
  (¬x.Moves y.nodeState y.refSelected → (x.nodeState ≠ .listen → y.listenCount = x.listenCount) ∧
    (x.nodeState ≠ .acquire → y.agreementCount = x.agreementCount) ∧ (x.nodeState ≠ .track → y.excessCount = x.excessCount) ∧
    (x.nodeState ≠ .holdover → y.holdoverAge = x.holdoverAge)) ∧
  (x.Moves y.nodeState y.refSelected → y.listenCount = 0 ∧ y.agreementCount = 0 ∧ y.excessCount = 0 ∧ y.atLimitCount = 0 ∧
    y.holdoverAge = if y.nodeState = .holdover ∧ x.nodeState ≠ .holdover then 1 else 0)

/-- What a move leaves of the record beside the node state, REF selected and the counters. -/
def Steering.Leaves (x y : Steering) : Prop := y.epochKnown = x.epochKnown ∧ y.utc = x.utc ∧
  y.hostTimescale = x.hostTimescale ∧ y.leapGuard = x.leapGuard ∧ y.estimate = x.estimate ∧ y.holdoverEntry = x.holdoverEntry

theorem Steering.Follows.spec {y : Steering} {selected : Bool} (h : x.Follows selected y) :
    y.refSelected = selected ∧ x.CountersFollow y ∧ x.Leaves y := by
  obtain ⟨z, st, ⟨l, a, k, h, rfl, listen, acquire, track, holdover⟩, rfl⟩ := h
  refine ⟨Steering.move_refSelected _ _ _, ?_⟩
  generalize hz : ({ x with listenCount := l, agreementCount := a, excessCount := k, holdoverAge := h } : Steering) = z
  have same : z.Moves st selected ↔ x.Moves st selected := by rw [← hz]; rfl
  by_cases moves : z.Moves st selected
  · rw [z.move_of_moves moves, ← hz]
    exact ⟨⟨fun stays => absurd (same.mp moves) stays, fun _ => ⟨rfl, rfl, rfl, rfl, rfl⟩⟩, rfl, rfl, rfl, rfl, rfl, rfl⟩
  · rw [z.move_of_not_moves moves, ← hz]
    exact ⟨⟨fun _ => ⟨listen, acquire, track, holdover⟩, fun changed => absurd changed (by simp [Steering.Moves])⟩,
      rfl, rfl, rfl, rfl, rfl, rfl⟩

end Sys2Proof.Machine
end

section
/-! SUPPORT. Step 5 of R98 and the record that a completion leaves: estimates, UTC majority, at-limit count, and the decision as the
summary shows it (R92, R96, R101, R111, R112, R126). -/

namespace Sys2Proof.Machine

/-! ## The estimate (R111, Table 5-6) -/

section Finish

variable (y x : Steering) (cfg : ConfigRecord) (r : RoundResult)

theorem Steering.setUtc_eq : ∃ u, y.setUtc r = { y with utc := u } := by
  unfold Steering.setUtc
  split
  · exact ⟨_, rfl⟩
  · split <;> exact ⟨_, rfl⟩

theorem Steering.finish_estimate : (y.finish x cfg r).estimate = (y.setEstimate x cfg r).estimate ∧
    (y.finish x cfg r).holdoverEntry = (y.setEstimate x cfg r).holdoverEntry := by
  obtain ⟨u, e⟩ := (y.setEstimate x cfg r).setClass.setUtc_eq r
  rw [Steering.finish, e]
  exact ⟨rfl, rfl⟩

/-- Table 5-6: the entry into HOLDOVER keeps the estimate and adds the growth of one round. -/
theorem Steering.setEstimate_of_enters (holds : y.nodeState = .holdover) (enters : x.nodeState ≠ .holdover) :
    y.setEstimate x cfg r = { y with estimate := min 2147483647 (x.estimate + cfg.growth), holdoverEntry := x.estimate } :=
  if_pos ⟨holds, enters⟩

/-- Table 5-6: in HOLDOVER the estimate grows with the age. -/
theorem Steering.setEstimate_of_stays (holds : y.nodeState = .holdover) (stays : x.nodeState = .holdover) :
    y.setEstimate x cfg r = { y with estimate := min 2147483647 (y.holdoverEntry + y.holdoverAge * cfg.growth) } :=
  (if_neg fun h => h.2 stays).trans (if_pos holds)

/-- Table 5-6: elsewhere the round estimate is taken where there is one. -/
theorem Steering.setEstimate_of_away (away : y.nodeState ≠ .holdover) :
    y.setEstimate x cfg r = { y with estimate := r.estimate.getD y.estimate } := by
  unfold Steering.setEstimate
  rw [if_neg fun h => away h.1, if_neg away]
  cases r.estimate <;> rfl

/-- Table 5-6, by the node states before and after the completion. -/
theorem Steering.finish_estimate_cases : let z := y.finish x cfg r
    (y.nodeState ≠ .holdover → z.estimate = r.estimate.getD y.estimate ∧ z.holdoverEntry = y.holdoverEntry) ∧
    (y.nodeState = .holdover → x.nodeState ≠ .holdover →
      z.estimate = min 2147483647 (x.estimate + cfg.growth) ∧ z.holdoverEntry = x.estimate) ∧
    (y.nodeState = .holdover → x.nodeState = .holdover →
      z.estimate = min 2147483647 (y.holdoverEntry + y.holdoverAge * cfg.growth) ∧ z.holdoverEntry = y.holdoverEntry) := by
  intro z
  obtain ⟨estimate, entry⟩ := y.finish_estimate x cfg r
  rw [show z.estimate = _ from estimate, show z.holdoverEntry = _ from entry]
  refine ⟨fun away => ?_, fun holds enters => ?_, fun holds stays => ?_⟩
  · rw [y.setEstimate_of_away x cfg r away]
    exact ⟨rfl, rfl⟩
  · rw [y.setEstimate_of_enters x cfg r holds enters]
    exact ⟨rfl, rfl⟩
  · rw [y.setEstimate_of_stays x cfg r holds stays]
    exact ⟨rfl, rfl⟩

/-! ## The UTC values (R126) -/

variable {y} in
/-- The rule looks at the UTC values and at what holds them. -/
theorem Steering.setUtc_congr {z : Steering} (utc : z.utc = y.utc) (host : z.hostTimescale = y.hostTimescale)
    (guard : z.leapGuard = y.leapGuard) (known : z.epochKnown = y.epochKnown) : (z.setUtc r).utc = (y.setUtc r).utc := by
  simp only [Steering.setUtc, host, guard, known]
  split
  · exact utc
  · split
    · exact utc
    · rfl

theorem Steering.finish_utc : (y.finish x cfg r).utc = (y.setUtc r).utc := by
  have estimated : ∃ e h, y.setEstimate x cfg r = { y with estimate := e, holdoverEntry := h } := by
    by_cases holds : y.nodeState = .holdover
    · by_cases stays : x.nodeState = .holdover
      · exact ⟨_, _, y.setEstimate_of_stays x cfg r holds stays⟩
      · exact ⟨_, _, y.setEstimate_of_enters x cfg r holds stays⟩
    · exact ⟨_, _, y.setEstimate_of_away x cfg r holds⟩
  obtain ⟨e, h, estimated⟩ := estimated
  rw [Steering.finish, estimated]
  exact Steering.setUtc_congr r rfl rfl rfl rfl

/-- Only one value is carried by more than half. -/
theorem eq_of_majority {l : List UtcValues} {v w : UtcValues} (hv : l.length < 2 * l.count v) (hw : l.length < 2 * l.count w) :
    v = w := by
  by_contra differ
  have rest : l.count w ≤ l.countP fun u => decide ¬(u == v) = true := by
    refine List.countP_mono_left fun u _ same => ?_
    have same : u = w := eq_of_beq same
    simpa [same] using Ne.symm differ
  have total : l.length = l.count v + _ := List.length_eq_countP_add_countP (· == v)
  omega

theorem majority_eq_some {l : List UtcValues} {v : UtcValues} : majority l = some v ↔ l.length < 2 * l.count v := by
  refine ⟨fun h => by simpa using List.find?_some h, fun h => ?_⟩
  have carried : v ∈ l := List.count_pos_iff.mp (by omega)
  obtain ⟨w, found⟩ := Option.isSome_iff_exists.mp
    ((List.find?_isSome (p := fun u => decide (l.length < 2 * l.count u))).mpr ⟨v, carried, decide_eq_true h⟩)
  have most : l.length < 2 * l.count w := by simpa using List.find?_some found
  rw [eq_of_majority h most]
  exact found

/-- The considered lanes, in the words of R126: those of S that carry the epoch. -/
theorem RoundResult.votes_eq : r.votes = r.lanesOfS.filterMap fun l =>
    (l.status.filter fun st => st.epochKnown).map PeerStatus.utc := by
  rw [RoundResult.votes, List.filterMap_filter]
  refine List.filterMap_congr fun l _ => ?_
  cases h : l.status with
  | none => simp [SetLane.known, h]
  | some st => cases known : st.epochKnown <;> simp [SetLane.known, h, known, Option.filter]

variable {y r}

/-- Where the rule applies the majority's values are taken. -/
theorem Steering.setUtc_of_majority (taken : r.overtaken = false) (host : y.hostTimescale = false) (guard : y.leapGuard = none)
    (known : y.epochKnown = true) {v : UtcValues} (h : r.votes.length < 2 * r.votes.count v) : (y.setUtc r).utc = v := by
  simp only [Steering.setUtc, taken, host, guard, known, majority_eq_some.mpr h]
  simp

/-- Where it does not apply, or no values have a majority, the UTC values stay. -/
theorem Steering.setUtc_of_stays (h : ¬((y.hostTimescale = false ∧ y.leapGuard = none ∧ y.epochKnown = true) ∧
    ∃ w, r.votes.length < 2 * r.votes.count w)) : (y.setUtc r).utc = y.utc := by
  unfold Steering.setUtc
  split
  · rfl
  · next free =>
    cases found : majority r.votes with
    | none => rfl
    | some w =>
      refine absurd ⟨?_, w, majority_eq_some.mp found⟩ h
      simpa using not_or.mp free |>.2

/-! ## Overtaken rounds (R98, step 1) -/

/-- The record of an overtaken round: in HOLDOVER the age advances and the estimate follows it. -/
theorem Steering.finish_of_overtaken {x z : Steering} (hz : z = x.overtaken.steer.finish x cfg r) (taken : r.overtaken = true)
    (none_ : r.estimate = none) :
    z = { x with
      accuracyClass := z.accuracyClass
      holdoverAge := if x.nodeState = .holdover then min 65535 (x.holdoverAge + 1) else x.holdoverAge
      estimate := if x.nodeState = .holdover then min 2147483647 (x.holdoverEntry + z.holdoverAge * cfg.growth)
        else x.estimate } ∧
    z.accuracyClass = if x.nodeState.settled then min 15 (bitLength z.estimate) else 15 := by
  have utc (w : Steering) : w.setUtc r = w := if_pos (.inl taken)
  rw [Steering.finish, utc] at hz
  by_cases hn : x.nodeState = .holdover
  · have aged : x.overtaken.steer = x.age := by rw [Steering.overtaken, if_pos hn]; rfl
    rw [aged, x.age.setEstimate_of_stays x cfg r hn hn] at hz
    rw [if_pos hn, if_pos hn, hz]
    exact ⟨rfl, rfl⟩
  · have plain : x.overtaken.steer = x := by rw [Steering.overtaken, if_neg hn]; rfl
    rw [plain, x.setEstimate_of_away x cfg r hn, none_] at hz
    rw [if_neg hn, if_neg hn, hz]
    exact ⟨rfl, rfl⟩

end Finish

/-! ## The completion and its decision (R92, R98) -/

variable (s : State) (f : Flight)

/-- The decision of a completion as step 4 of R98 leaves it. -/
def State.decision : Decision := (s.judged f).steer.decideRound s.config (s.judged f).ref.state
  (f.result s.config s.ownId s.round.quiet) f.refOffset

theorem State.decided_eq : s.decided f = { s.decision f with
    steer := (s.decision f).steer.finish (s.judged f).steer s.config (f.result s.config s.ownId s.round.quiet) } := rfl

/-- Step 5 of R98 moves the estimates, the class and the UTC values of the decision's record. -/
theorem State.decided_steer_eq : ∃ e h k u, (s.decided f).steer =
    { (s.decision f).steer with estimate := e, holdoverEntry := h, accuracyClass := k, utc := u } := by
  obtain ⟨e, h, u, finished, -⟩ := Steering.finish_eq (s.judged f).steer s.config (f.result s.config s.ownId s.round.quiet)
    (s.decision f).steer
  exact ⟨e, h, _, u, finished⟩

/-- The summary shows a decision's order, the record holds its states and counters, and CLAMPED is set where the slew limit cut it
(R92, R99). -/
structure State.Carries (t : State) (d : Decision) : Prop where
  action : t.round.published.action = d.order.action
  rateStep : t.round.published.rateStep = d.order.rateStep
  clamped : d.clamped = true → t.flag 1 = true
  nodeState : t.steer.nodeState = d.steer.nodeState
  refSelected : t.steer.refSelected = d.steer.refSelected
  epochKnown : t.steer.epochKnown = d.steer.epochKnown
  hostTimescale : t.steer.hostTimescale = d.steer.hostTimescale
  listenCount : t.steer.listenCount = d.steer.listenCount
  agreementCount : t.steer.agreementCount = d.steer.agreementCount
  excessCount : t.steer.excessCount = d.steer.excessCount
  holdoverAge : t.steer.holdoverAge = d.steer.holdoverAge

/-- The judgement of the reference clears the host-timescale flag where the reference ceases to be VALID (R125). -/
theorem State.judged_hostTimescale : (s.judged f).steer.hostTimescale = true ↔
    s.steer.hostTimescale = true ∧ (s.ref.state = .valid → (s.judged f).ref.state = .valid) := by
  unfold State.judged State.judgeReference
  simp only
  split
  · rw [State.setRefUnit_eq, State.reportIf_steer, State.reportIf_ref, State.setSteer_steer, Bool.and_eq_true, Bool.not_eq_true',
      decide_eq_false_iff_not, not_and, not_ne_iff]
    rfl
  · exact (and_iff_left id).symm

variable {s f} (run : s.running = true)
include run

theorem State.complete_refState : (s.complete f).ref.state = (s.judged f).ref.state := by
  rw [s.complete_ref f, s.issued_refState f run]

theorem State.complete_clamped (h : (s.decided f).clamped = true) : (s.complete f).flag 1 = true := by
  refine (s.complete_flag f 1).mpr (.inl ?_)
  rcases s.issued_spec f run with ⟨hd, -⟩ | ⟨a, hd, -, -⟩ | ⟨g, hd, e⟩ <;> rw [hd] at h
  · cases h
  · cases h
  · rw [e]
    exact (State.flag_reportIf _ .clamped 1).mpr (.inr ⟨rfl, h⟩)

theorem State.complete_carries : (s.complete f).Carries (s.decision f) := by
  obtain ⟨n, w, g, issued⟩ := s.issued_steer f run
  obtain ⟨e, h, k, u, decided⟩ := s.decided_steer_eq f
  have published := State.complete_published (f := f) s run
  have steer := (s.complete_steer f).trans issued
  rw [decided] at steer
  constructor
  case clamped => exact State.complete_clamped run
  case action | rateStep => rw [published]; rfl
  all_goals rw [steer]

/-- A HOLD leaves the record of the decision. -/
theorem State.complete_steer_of_hold (h : (s.decided f).order.action = .hold) : (s.complete f).steer = (s.decided f).steer := by
  rw [s.complete_steer f]
  rcases s.issued_spec f run with ⟨-, e⟩ | ⟨a, hd, -, -⟩ | ⟨g, hd, -⟩
  · rw [e]; rfl
  · rw [hd] at h; cases h
  · rw [hd] at h; cases h

/-! ## The at-limit count (R101) -/

omit run in
theorem countAtLimit_count (n : Nat) (changed limit : Bool) : (countAtLimit n changed limit).1 =
    if changed = false ∧ limit = true ∧ n < 7 then n + 1 else 0 := by
  unfold countAtLimit satSucc
  cases changed <;> cases limit
  case false.true =>
    simp only [Bool.false_eq_true, Bool.not_true, if_false, true_and]
    split <;> split <;> omega
  case false.false | true.false | true.true => simp

/-- The at-limit count after a completion: an order with a rate step moves it, others leave it. -/
theorem State.complete_atLimitCount : let t := s.complete f
    (t.round.published.rateStep = none → t.steer.atLimitCount = (s.decided f).steer.atLimitCount) ∧
    (t.round.published.rateStep ≠ none → t.steer.atLimitCount =
      if s.spellChanges f = false ∧ |t.clock.rate| = 100000000 ∧ (s.decided f).steer.atLimitCount < 7
      then (s.decided f).steer.atLimitCount + 1 else 0) := by
  intro t
  have rateStep : t.round.published.rateStep = (s.decided f).order.rateStep := (State.complete_carries run).rateStep
  simp only [rateStep, t, s.complete_steer f, s.complete_clock f]
  rcases s.issued_spec f run with ⟨hd, e⟩ | ⟨a, hd, -, e⟩ | ⟨g, hd, e⟩
  · rw [e, hd]
    exact ⟨fun _ => rfl, fun h => absurd rfl h⟩
  · refine ⟨fun _ => ?_, fun h => absurd (by rw [hd]; rfl) h⟩
    have steer : (s.issued f).steer = (s.decided f).steer.onStep s.clock.reading a := by rw [e, State.takeStep_steer]; rfl
    rw [steer]
    rcases Steering.onStep_cases (s.decided f).steer s.clock.reading a with ⟨-, -, e'⟩ | ⟨-, e'⟩ <;> rw [e']
  · refine ⟨fun h => ?_, fun _ => ?_⟩
    · rw [hd] at h; cases h
    rw [e]
    simp only [State.reportIf_steer, State.reportIf_clock, State.setSteer_clock, State.setSteer_steer, countAtLimit_count,
      atLimit_iff]

/-! ## The UTC values and the leap guard (R126, R127) -/

/-- The UTC values and the leap guard that a completion leaves where step 5 of R98 set the values `v`: a STEP over their leap
carries it out (R127; log entry 9). -/
theorem State.complete_utc : let t := s.complete f; let v := (s.decided f).steer.utc
    match t.round.published.action with
    | .step c =>
      if 0 < c ∧ v.leapJumped s.clock.reading c = true
      then t.steer.utc = v.leap ∧ t.steer.leapGuard = some ((s.clock.reading.plus c).plus 8000000000)
      else t.steer.utc = v ∧ t.steer.leapGuard = s.steer.leapGuard.map fun g => g.plus c
    | _ => t.steer.utc = v ∧ t.steer.leapGuard = s.steer.leapGuard := by
  intro t v
  have guard := (s.decided_steer f).1
  have action : t.round.published.action = (s.decided f).order.action := (State.complete_carries run).action
  rw [action]
  rcases s.issued_spec f run with ⟨hd, e⟩ | ⟨a, hd, acquire, e⟩ | ⟨g, hd, e⟩ <;> rw [hd]
  · have steer : t.steer = (s.decided f).steer := (s.complete_steer f).trans (by rw [e]; rfl)
    rw [steer]
    exact ⟨rfl, guard⟩
  · have steer : t.steer = (s.decided f).steer.onStep s.clock.reading a := (State.complete_of_step acquire e).2.2.1
    rw [steer]
    change if 0 < a ∧ v.leapJumped s.clock.reading a = true then _ else _
    rcases Steering.onStep_cases (s.decided f).steer s.clock.reading a with ⟨pos, jumped, e'⟩ | ⟨free, e'⟩ <;> rw [e']
    · rw [if_pos ⟨pos, jumped⟩]
      exact ⟨rfl, rfl⟩
    · rw [if_neg free, ← guard]
      exact ⟨rfl, rfl⟩
  · have steer : t.steer = { (s.decided f).steer with atLimitCount := t.steer.atLimitCount } := by
      simp only [t, s.complete_steer f, e, State.reportIf_steer]
      rfl
    rw [steer]
    exact ⟨rfl, guard⟩

end Sys2Proof.Machine
end

section
/-! SUPPORT. What a completion leaves by the decision it carries: adoption, release and entry, and the rounds of each node state
(R103 to R110), with the statement about all of them. -/

namespace Sys2Proof.Machine

/-! ## Corrections (R99) -/

theorem clampTo_eq (limit : Nat) (c : Int) : clampTo limit c = max (-(limit : Int)) (min limit c) := by
  unfold clampTo
  split
  · omega
  · split <;> omega

/-- The summary shows the order of a correction of `c` at a gain, CLAMPED with it beyond the slew limit (R99). -/
def State.Corrected (t : State) (cfg : ConfigRecord) (gain : Nat) (c : Int) : Prop :=
  t.round.published.action = .slew (max (-(cfg.slewLimit : Int)) (min cfg.slewLimit c)) ∧
    t.round.published.rateStep = some (halfEven (250000 * c) (cfg.roundMs * 2 ^ gain)) ∧
    ((cfg.slewLimit : Int) < |c| → t.flag 1 = true)

variable {x y : Steering} {cfg : ConfigRecord} {r : RoundResult} {offset : Option Int} {ref : RefState} {t : State} {c : Int}
  {d : Decision} {fresh : Bool}

theorem State.Carries.corrected {gain : Nat} (h : t.Carries (y.correct cfg gain c)) : t.Corrected cfg gain c :=
  ⟨h.action.trans (congrArg Action.slew (clampTo_eq _ _)), h.rateStep, fun cut => h.clamped (decide_eq_true cut)⟩

/-! ## LISTEN (R103) -/

theorem State.Carries.listen_none (h : t.Carries (x.ordinary cfg r fresh)) (hn : x.nodeState = .listen) (hc : r.correction = none) :
    t.round.published.action = .hold ∧ t.steer.nodeState = .listen ∧ t.steer.listenCount = min 4 (x.listenCount + 1) := by
  rw [Steering.ordinary_of_listen hn, x.inListen_of_none r hc] at h
  exact ⟨h.action, h.nodeState.trans hn, h.listenCount⟩

theorem State.Carries.listen_some (h : t.Carries (x.ordinary cfg r fresh))
    (hn : x.nodeState = .listen) (hc : r.correction = some c) :
    (x.listenCount < 3 →
      t.round.published.action = .hold ∧ t.steer.nodeState = .listen ∧ t.steer.listenCount = x.listenCount + 1) ∧
    (3 ≤ x.listenCount → t.round.published.action = .step c ∧ t.steer.nodeState = .acquire ∧ t.steer.listenCount = 0 ∧
      t.steer.epochKnown = (x.epochKnown || r.epochKnownSet)) := by
  rw [Steering.ordinary_of_listen hn] at h
  refine ⟨fun few => ?_, fun fourth => ?_⟩
  · rw [x.inListen_of_few r hc few] at h
    exact ⟨h.action, h.nodeState.trans hn, h.listenCount⟩
  · rw [x.inListen_of_fourth r hc fourth] at h
    have moved := Steering.move_of_moves { x with epochKnown := x.epochKnown || r.epochKnownSet, listenCount := 4 }
      (st := .acquire) (selected := x.refSelected) (.inl (by rw [hn]; nofun))
    rw [moved] at h
    exact ⟨h.action, h.nodeState, h.listenCount, h.epochKnown⟩

/-! ## ACQUIRE (R104, R109) -/

/-- Eight rounds of agreement move the record on, and the count returns to 0; before that it stays in ACQUIRE. -/
theorem State.Carries.promoted {n gain : Nat} {st : NodeState} {selected : Bool}
    (h : t.Carries ((x.promote n st selected).correct cfg gain c)) (hn : x.nodeState = .acquire) (hst : st ≠ .acquire) :
    (n = 8 → t.steer.nodeState = st ∧ t.steer.agreementCount = 0) ∧
    (n ≠ 8 → t.steer.nodeState = .acquire ∧ t.steer.agreementCount = n) := by
  refine ⟨fun full => ?_, fun short => ?_⟩
  · have promoted : x.promote n st selected = _ := (if_pos full).trans
      (Steering.move_of_moves { x with agreementCount := n } (.inl (by rw [hn]; exact hst)))
    rw [promoted] at h
    exact ⟨h.nodeState, h.agreementCount⟩
  · have stays : x.promote n st selected = { x with agreementCount := n } := if_neg short
    rw [stays] at h
    exact ⟨h.nodeState.trans hn, h.agreementCount⟩

theorem State.Carries.acquire_none (h : t.Carries (x.ordinary cfg r fresh))
    (hn : x.nodeState = .acquire) (clear : x.refSelected = false) (hc : r.correction = none) :
    t.round.published.action = .hold ∧ t.steer.nodeState = .acquire ∧ t.steer.agreementCount = x.agreementCount := by
  rw [Steering.ordinary_of_acquire hn, if_neg (by simp [clear]), x.inAcquire_of_none cfg r hc] at h
  exact ⟨h.action, h.nodeState.trans hn, h.agreementCount⟩

theorem State.Carries.acquire_some (h : t.Carries (x.ordinary cfg r fresh))
    (hn : x.nodeState = .acquire) (clear : x.refSelected = false) (hc : r.correction = some c) :
    (¬|c| ≤ cfg.stepThreshold → t.round.published.action = .step c ∧ t.steer.nodeState = .acquire ∧ t.steer.agreementCount = 0) ∧
    (|c| ≤ cfg.stepThreshold → t.Corrected cfg cfg.acquireGain c ∧
      ((cfg.band : Int) < |c| → t.steer.nodeState = .acquire ∧ t.steer.agreementCount = 0) ∧
      (|c| ≤ cfg.band → x.agreementCount < 7 →
        t.steer.nodeState = .acquire ∧ t.steer.agreementCount = x.agreementCount + 1) ∧
      (|c| ≤ cfg.band → 7 ≤ x.agreementCount → t.steer.nodeState = .track ∧ t.steer.agreementCount = 0)) := by
  rw [Steering.ordinary_of_acquire hn, if_neg (by simp [clear])] at h
  refine ⟨fun beyond => ?_, fun within => ?_⟩
  · rw [x.inAcquire_of_beyond cfg r hc beyond] at h
    exact ⟨h.action, h.nodeState.trans hn, h.agreementCount⟩
  · rw [x.inAcquire_of_within cfg r hc within] at h
    obtain ⟨full, short⟩ := h.promoted hn nofun
    refine ⟨h.corrected, fun outside => ?_, fun inside few => ?_, fun inside many => ?_⟩
    · have count : x.agreementAfter cfg c = 0 := if_neg (not_le.mpr outside)
      rw [count] at short
      exact short nofun
    · have count : x.agreementAfter cfg c = x.agreementCount + 1 := (if_pos inside).trans (by omega)
      rw [count] at short
      exact short (by omega)
    · have count : x.agreementAfter cfg c = 8 := (if_pos inside).trans (by omega)
      exact full count

theorem State.Carries.acquireRef (h : t.Carries (x.ordinary cfg r offset.isSome)) (hn : x.nodeState = .acquire)
    (selected : x.refSelected = true) (hc : r.correction = some c) : t.steer.refSelected = true ∧
    (¬|c| ≤ cfg.stepThreshold → t.round.published.action = .step c ∧ t.steer.nodeState = .acquire ∧ t.steer.agreementCount = 0) ∧
    (|c| ≤ cfg.stepThreshold → t.Corrected cfg cfg.acquireGain c ∧
      let n := if offset = none then x.agreementCount else x.agreementAfter cfg c
      (n = 8 → t.steer.nodeState = .anchored ∧ t.steer.agreementCount = 0) ∧
      (n ≠ 8 → t.steer.nodeState = .acquire ∧ t.steer.agreementCount = n)) := by
  rw [Steering.ordinary_of_acquire hn, if_pos selected] at h
  by_cases within : |c| ≤ cfg.stepThreshold
  · rw [x.inAcquireRef_of_within cfg r hc within] at h
    have promoted (n : Nat) : (x.promote n .anchored true).refSelected = true := by
      simp only [Steering.promote]
      split
      · exact Steering.move_refSelected _ _ _
      · exact selected
    exact ⟨h.refSelected.trans (promoted _), fun beyond => absurd within beyond, fun _ => ⟨h.corrected, h.promoted hn nofun⟩⟩
  · rw [x.inAcquireRef_of_beyond cfg r hc within] at h
    exact ⟨h.refSelected.trans selected, fun _ => ⟨h.action, h.nodeState.trans hn, h.agreementCount⟩,
      fun near => absurd near within⟩

/-! ## TRACK, HOLDOVER and ANCHORED (R105, R106, R109) -/

theorem State.Carries.track_none (h : t.Carries (x.ordinary cfg r fresh)) (hn : x.nodeState = .track) (hc : r.correction = none) :
    t.round.published.action = .hold ∧ t.steer.nodeState = .holdover ∧ t.steer.holdoverAge = 1 := by
  rw [Steering.ordinary_of_track hn] at h
  have away : NodeState.holdover ≠ x.nodeState := by rw [hn]; nofun
  rw [x.inTrack_of_none cfg r hc, x.move_of_moves (.inl away)] at h
  exact ⟨h.action, h.nodeState, h.holdoverAge.trans (if_pos ⟨rfl, away.symm⟩)⟩

theorem State.Carries.track_some (h : t.Carries (x.ordinary cfg r fresh)) (hn : x.nodeState = .track) (hc : r.correction = some c) :
    (|c| ≤ cfg.stepThreshold → t.Corrected cfg cfg.trackGain c ∧ t.steer.nodeState = .track ∧ t.steer.excessCount = 0) ∧
    (¬|c| ≤ cfg.stepThreshold → x.excessCount < 2 →
      t.round.published.action = .hold ∧ t.steer.nodeState = .track ∧ t.steer.excessCount = x.excessCount + 1) ∧
    (¬|c| ≤ cfg.stepThreshold → 2 ≤ x.excessCount →
      t.round.published.action = .step c ∧ t.steer.nodeState = .acquire ∧ t.steer.excessCount = 0) := by
  rw [Steering.ordinary_of_track hn] at h
  refine ⟨fun within => ?_, fun beyond few => ?_, fun beyond third => ?_⟩
  · rw [x.inTrack_of_within cfg r hc within] at h
    exact ⟨h.corrected, h.nodeState.trans hn, h.excessCount⟩
  · rw [x.inTrack_of_few cfg r hc beyond few] at h
    exact ⟨h.action, h.nodeState.trans hn, h.excessCount⟩
  · rw [x.inTrack_of_third cfg r hc beyond third,
      Steering.move_of_moves { x with excessCount := 3 } (.inl (by rw [hn]; nofun))] at h
    exact ⟨h.action, h.nodeState, h.excessCount⟩

theorem State.Carries.holdover_none (h : t.Carries (x.ordinary cfg r fresh)) (hn : x.nodeState = .holdover)
    (hc : r.correction = none) : t.round.published.action = .hold ∧ t.steer.nodeState = .holdover ∧
      t.steer.holdoverAge = min 65535 (x.holdoverAge + 1) := by
  rw [Steering.ordinary_of_holdover hn, x.inHoldover_of_none cfg r hc] at h
  exact ⟨h.action, h.nodeState.trans hn, h.holdoverAge⟩

theorem State.Carries.holdover_some (h : t.Carries (x.ordinary cfg r fresh))
    (hn : x.nodeState = .holdover) (hc : r.correction = some c) :
    (|c| ≤ cfg.stepThreshold → t.Corrected cfg cfg.trackGain c ∧ t.steer.nodeState = .track) ∧
    (¬|c| ≤ cfg.stepThreshold → t.round.published.action = .step c ∧ t.steer.nodeState = .acquire) := by
  rw [Steering.ordinary_of_holdover hn] at h
  refine ⟨fun within => ?_, fun beyond => ?_⟩
  · rw [x.inHoldover_of_within cfg r hc within] at h
    exact ⟨h.corrected, h.nodeState.trans (x.move_nodeState _ _)⟩
  · rw [x.inHoldover_of_beyond cfg r hc beyond] at h
    exact ⟨h.action, h.nodeState.trans (x.move_nodeState _ _)⟩

theorem State.Carries.anchored (h : t.Carries (x.ordinary cfg r fresh)) (hn : x.nodeState = .anchored)
    (selected : x.refSelected = true) (hc : r.correction = some c) : t.steer.refSelected = true ∧
    (|c| ≤ cfg.stepThreshold → t.Corrected cfg cfg.trackGain c ∧ t.steer.nodeState = .anchored) ∧
    (¬|c| ≤ cfg.stepThreshold → t.round.published.action = .step c ∧ t.steer.nodeState = .acquire) := by
  rw [Steering.ordinary_of_anchored hn] at h
  by_cases within : |c| ≤ cfg.stepThreshold
  · rw [x.inAnchored_of_within cfg r hc within] at h
    exact ⟨h.refSelected.trans selected, fun _ => ⟨h.corrected, h.nodeState.trans hn⟩, fun beyond => absurd within beyond⟩
  · rw [x.inAnchored_of_beyond cfg r hc within] at h
    exact ⟨h.refSelected.trans (x.move_refSelected _ _), fun near => absurd near within,
      fun _ => ⟨h.action, h.nodeState.trans (x.move_nodeState _ _)⟩⟩

/-! ## Adoption, release and entry (R107, R108, R110) -/

theorem State.Carries.adopted {o : EpochOffer} (h : t.Carries (x.adoptEpoch o)) :
    t.round.published.action = .step o.mean ∧ t.steer.nodeState = .acquire ∧ t.steer.refSelected = x.refSelected ∧
      t.steer.agreementCount = 0 ∧ t.steer.epochKnown = true :=
  ⟨h.action, h.nodeState.trans (Steering.move_nodeState _ _ _), h.refSelected.trans (Steering.move_refSelected _ _ _),
    h.agreementCount, h.epochKnown.trans (Steering.move_epochKnown _ _ _)⟩

theorem State.Carries.released {range : PeerRange} (h : t.Carries (x.release range)) :
    t.round.published.action = .hold ∧ t.round.published.rateStep = none ∧ t.steer.refSelected = false ∧
      t.steer.epochKnown = x.epochKnown ∧ t.steer.nodeState =
        if x.nodeState = .anchored then (if range = .starved then .holdover else .track) else x.nodeState := by
  obtain ⟨st, released, state⟩ : ∃ st, x.release range = (x.move st false).hold ∧
      st = if x.nodeState = .anchored then (if range = .starved then .holdover else .track) else x.nodeState := by
    unfold Steering.release
    split
    · next hn => exact ⟨_, rfl, (if_pos hn).symm⟩
    · next hn => exact ⟨_, rfl, (if_neg hn).symm⟩
  rw [released] at h
  exact ⟨h.action, h.rateStep, h.refSelected.trans (x.move_refSelected _ _), h.epochKnown.trans (x.move_epochKnown _ _),
    h.nodeState.trans ((x.move_nodeState _ _).trans state)⟩

theorem State.Carries.entered_early (h : t.Carries d) (entered : x.enter cfg r offset = some d)
    (early : x.nodeState = .listen ∨ x.nodeState = .acquire) :
    t.round.published.action = .hold ∧ t.steer.nodeState = .acquire := by
  obtain rfl := Option.some.inj (entered.symm.trans (x.enter_of_early cfg r offset early))
  exact ⟨h.action, h.nodeState.trans (x.move_nodeState _ _)⟩

theorem State.Carries.entered_late {o : Int} (h : t.Carries d) (entered : x.enter cfg r (some o) = some d)
    (late : x.nodeState = .track ∨ x.nodeState = .holdover) :
    ((cfg.band : Int) < |o| → t.round.published.action = .hold ∧ t.steer.nodeState = .acquire) ∧
    (|o| ≤ cfg.band → t.steer.nodeState = .anchored ∧
      (∀ c, r.correction = some c → |c| ≤ cfg.stepThreshold → t.Corrected cfg cfg.trackGain c) ∧
      ((∀ c, r.correction = some c → ¬|c| ≤ cfg.stepThreshold) → t.round.published.action = .hold)) := by
  refine ⟨fun outside => ?_, fun inside => ?_⟩
  · obtain rfl := Option.some.inj (entered.symm.trans (x.enter_of_outside cfg r late outside))
    exact ⟨h.action, h.nodeState.trans (x.move_nodeState _ _)⟩
  · obtain ⟨correct, hold⟩ := x.enter_of_inside cfg r late inside
    by_cases within : ∃ c, r.correction = some c ∧ |c| ≤ cfg.stepThreshold
    · obtain ⟨c, hc, within⟩ := within
      obtain rfl := Option.some.inj (entered.symm.trans (correct c hc within))
      refine ⟨h.nodeState.trans (x.move_nodeState _ _), fun c' hc' _ => ?_, fun beyond => absurd within (beyond c hc)⟩
      obtain rfl : c = c' := Option.some.inj (hc.symm.trans hc')
      exact h.corrected
    · have beyond : ∀ c, r.correction = some c → ¬|c| ≤ cfg.stepThreshold := fun c hc near => within ⟨c, hc, near⟩
      obtain rfl := Option.some.inj (entered.symm.trans (hold beyond))
      exact ⟨h.nodeState.trans (x.move_nodeState _ _), fun c hc near => absurd near (beyond c hc), fun _ => h.action⟩

/-! ## Precedence (R98) -/

section Precedence

variable (h : t.Carries (x.decideRound cfg ref r offset)) (taken : r.overtaken = false)
include h taken

theorem State.Carries.of_adopts {o : EpochOffer} (adopts : x.Adopts r.offer) (ho : r.offer = some o) :
    t.Carries (x.adoptEpoch o) := Steering.decideRound_of_adopts (ref := ref) (offset := offset) (cfg := cfg) taken adopts ho ▸ h

theorem State.Carries.of_released (stays : ¬x.Adopts r.offer) (selected : x.refSelected = true)
    (unusable : ¬refUsable cfg ref x = true) : t.Carries (x.release r.peerRange) :=
  Steering.decideRound_of_released (offset := offset) taken stays selected unusable ▸ h

theorem State.Carries.of_steered (stays : ¬x.Adopts r.offer) (selected : x.refSelected = true)
    (usable : refUsable cfg ref x = true) : t.Carries (x.ordinary cfg r offset.isSome) :=
  Steering.decideRound_of_steered taken stays selected usable ▸ h

/-- Where the entry takes place, its decision is carried, and the record moves to a state with REF selected set. -/
theorem State.Carries.of_entered (stays : ¬x.Adopts r.offer) (clear : x.refSelected = false)
    (usable : refUsable cfg ref x = true) (enters : x.Enters offset) :
    ∃ d, x.enter cfg r offset = some d ∧ t.Carries d ∧ t.steer.refSelected = true ∧ t.steer.epochKnown = x.epochKnown := by
  obtain ⟨d, entered⟩ := x.enter_of_enters cfg r offset enters
  have carried : t.Carries d := Steering.decideRound_of_entered taken stays clear usable entered ▸ h
  obtain ⟨selected, -, epoch, -⟩ := (Steering.enter_follows entered).spec
  exact ⟨d, entered, carried, carried.refSelected.trans selected, carried.epochKnown.trans epoch⟩

theorem State.Carries.of_ordinary (stays : ¬x.Adopts r.offer) (clear : x.refSelected = false)
    (out : ¬(refUsable cfg ref x = true ∧ x.Enters offset)) : t.Carries (x.ordinary cfg r offset.isSome) := by
  rw [not_and_or] at out
  exact Steering.decideRound_of_ordinary taken stays clear (out.imp_right (x.enter_of_not_enters cfg r offset)) ▸ h

end Precedence

/-- An ordinary decision learns the epoch at most at the end of LISTEN, and outside ANCHORED leaves REF selected. -/
theorem State.Carries.ordinary_keeps (h : t.Carries (x.ordinary cfg r fresh)) :
    (x.nodeState ≠ .listen ∨ t.steer.nodeState = .listen → t.steer.epochKnown = x.epochKnown) ∧
    (x.epochKnown = true → t.steer.epochKnown = x.epochKnown) ∧
    (x.nodeState ≠ .anchored → t.steer.refSelected = x.refSelected) := by
  obtain ⟨e, selected, follows, learns, keeps⟩ := Steering.ordinary_follows (x := x) (cfg := cfg) (r := r) fresh
  obtain ⟨refSelected, -, epoch, -⟩ := follows.spec
  rw [h.epochKnown, h.nodeState, h.refSelected, refSelected, show _ = e from epoch]
  rcases learns with same | ⟨listen, acquire, learnt⟩
  · exact ⟨fun _ => same, fun _ => same, keeps⟩
  · refine ⟨fun stays => ?_, fun known => ?_, keeps⟩
    · rw [acquire] at stays
      exact absurd listen (stays.resolve_right nofun)
    · rw [learnt, known, Bool.true_or]

/-! ## The record and the decision it comes from -/

section Completed

variable {s : State} {f : Flight} (taken : f.overtaken = false)
include taken

/-- The record that a completion leaves, by the one before: counters, estimates and UTC values, with the epoch and the UTC values
of an adopted offer (R96, R107). -/
theorem State.decision_follows : ∃ e u selected,
    ({ s.steer with epochKnown := e, utc := u, hostTimescale := (s.judged f).steer.hostTimescale } : Steering).Follows selected
      (s.decision f).steer ∧
    (¬s.steer.Adopts (f.offer s.config) → u = s.steer.utc) ∧
    ∀ o, s.steer.Adopts (f.offer s.config) → f.offer s.config = some o → e = true ∧ u = o.utc := by
  obtain ⟨b, judged⟩ := s.judged_steer_eq f
  unfold State.decision
  rw [judged]
  by_cases adopts : s.steer.Adopts (f.offer s.config)
  · obtain ⟨o, ho⟩ := Option.ne_none_iff_exists'.mp adopts.2.1
    have decided := Steering.decideRound_of_adopts (x := { s.steer with hostTimescale := b }) (cfg := s.config)
      (r := f.result s.config s.ownId s.round.quiet) (offset := f.refOffset) (ref := (s.judged f).ref.state) taken adopts ho
    refine ⟨true, o.utc, s.steer.refSelected, ?_, fun stays => absurd adopts stays, fun o' _ ho' => ?_⟩
    · rw [decided]
      exact Steering.adoptEpoch_follows (x := { s.steer with hostTimescale := b }) o
    · obtain rfl : o = o' := Option.some.inj (ho.symm.trans ho')
      exact ⟨rfl, rfl⟩
  · obtain ⟨e, selected, follows⟩ := Steering.decideRound_follows (x := { s.steer with hostTimescale := b }) (cfg := s.config)
      (r := f.result s.config s.ownId s.round.quiet) (offset := f.refOffset) (ref := (s.judged f).ref.state) (.inr adopts)
    exact ⟨e, s.steer.utc, selected, follows, fun _ => rfl, fun _ h => absurd h adopts⟩

/-- The counters of the decision follow those before, and the leap guard and the estimates stay until step 5 of R98. -/
theorem State.decision_spec : let y := (s.decision f).steer
    s.steer.CountersFollow y ∧ y.leapGuard = s.steer.leapGuard ∧ y.estimate = s.steer.estimate ∧
      y.holdoverEntry = s.steer.holdoverEntry ∧ (¬s.steer.Adopts (f.offer s.config) → y.utc = s.steer.utc) := by
  obtain ⟨e, u, selected, follows, own, -⟩ := State.decision_follows (s := s) taken
  obtain ⟨-, counters, -, utc, -, guard, estimate, entry⟩ := follows.spec
  exact ⟨counters, guard, estimate, entry, fun stays => utc.trans (own stays)⟩

/-- Of an adopted offer the UTC values stand, and no lane of S knows others (R107, R126). -/
theorem State.decided_utc_of_adopts {o : EpochOffer} (adopts : s.steer.Adopts (f.offer s.config)) (ho : f.offer s.config = some o) :
    (s.decided f).steer.utc = o.utc := by
  obtain ⟨e, u, selected, follows, -, offered⟩ := State.decision_follows (s := s) taken
  obtain ⟨-, -, -, utc, -⟩ := follows.spec
  have votes : (f.result s.config s.ownId s.round.quiet).votes = [] := by
    rw [RoundResult.votes, List.filter_eq_nil_iff.mpr fun x hx => ?_, List.filterMap_nil]
    rw [f.setS_unknown s.config s.ownId adopts.2.1 x hx]
    nofun
  rw [s.decided_eq f, Steering.finish_utc, Steering.setUtc_of_stays (by simp [votes]), utc]
  exact (offered o adopts ho).2

section Run

variable (run : s.running = true)
include run

/-- What holds the UTC values back at a completion, in the record that it leaves (R126). -/
theorem State.decision_open : ((s.decision f).steer.hostTimescale = false ∧ (s.decision f).steer.leapGuard = none ∧
      (s.decision f).steer.epochKnown = true) ↔
    ((s.complete f).steer.hostTimescale = false ∧ s.steer.leapGuard = none ∧ (s.complete f).steer.epochKnown = true) := by
  obtain ⟨-, guard, -⟩ := State.decision_spec (s := s) taken
  have carried := State.complete_carries (f := f) run
  rw [carried.hostTimescale, carried.epochKnown, guard]

/-- The majority's UTC values are taken where nothing holds them back, and else they stay (R126). -/
theorem State.decided_utc (stays : ¬s.steer.Adopts (f.offer s.config)) : let y := (s.complete f).steer
    let votes := (f.result s.config s.ownId s.round.quiet).votes
    let free : Prop := y.hostTimescale = false ∧ s.steer.leapGuard = none ∧ y.epochKnown = true
    (∀ v, free → votes.length < 2 * votes.count v → (s.decided f).steer.utc = v) ∧
    (¬(free ∧ ∃ w, votes.length < 2 * votes.count w) → (s.decided f).steer.utc = s.steer.utc) := by
  obtain ⟨-, -, -, -, utc⟩ := State.decision_spec (s := s) taken
  have opened := State.decision_open taken run
  rw [s.decided_eq f, Steering.finish_utc]
  refine ⟨fun v free most => ?_, fun held => ?_⟩
  · obtain ⟨host, guard, known⟩ := opened.mpr free
    exact Steering.setUtc_of_majority taken host guard known most
  · rw [← opened] at held
    exact (Steering.setUtc_of_stays held).trans (utc stays)

/-- The estimate and the estimate at holdover entry after a completion (Table 5-6). -/
theorem State.complete_estimates : let x := s.steer; let y := (s.complete f).steer
    (y.nodeState ≠ .holdover →
      y.estimate = (s.complete f).round.published.roundEstimate.getD x.estimate ∧ y.holdoverEntry = x.holdoverEntry) ∧
    (y.nodeState = .holdover → x.nodeState ≠ .holdover →
      y.estimate = min 2147483647 (x.estimate + s.config.growth) ∧ y.holdoverEntry = x.estimate) ∧
    (y.nodeState = .holdover → x.nodeState = .holdover →
      y.estimate = min 2147483647 (x.holdoverEntry + y.holdoverAge * s.config.growth) ∧ y.holdoverEntry = x.holdoverEntry) := by
  obtain ⟨-, -, estimate, entry, -⟩ := State.decision_spec (s := s) taken
  obtain ⟨n, w, g, issued⟩ := s.issued_steer f run
  obtain ⟨b, judged⟩ := s.judged_steer_eq f
  have carried := State.complete_carries (f := f) run
  have finished := (s.decision f).steer.finish_estimate_cases (s.judged f).steer s.config
    (f.result s.config s.ownId s.round.quiet)
  have published : (s.complete f).round.published.roundEstimate = (f.result s.config s.ownId s.round.quiet).estimate := by
    rw [State.complete_published s run]
    rfl
  have steer := (s.complete_steer f).trans issued
  intro x y
  have same : y.estimate = (s.decided f).steer.estimate ∧ y.holdoverEntry = (s.decided f).steer.holdoverEntry := by
    simp only [y, steer, and_self]
  rw [s.decided_eq f] at same
  rw [show y.nodeState = _ from carried.nodeState, show y.holdoverAge = _ from carried.holdoverAge, same.1, same.2, published]
  simp only [judged, estimate, entry] at finished ⊢
  exact finished

/-- The at-limit count after a completion, by whether the node state or REF selected has changed (R96, R101). -/
theorem State.complete_limit : let x := s.steer; let y := (s.complete f).steer; let m := (s.complete f).round.published
    (x.Moves y.nodeState y.refSelected → y.atLimitCount = 0) ∧
    (¬x.Moves y.nodeState y.refSelected → (m.rateStep = none → y.atLimitCount = x.atLimitCount) ∧
      (m.rateStep ≠ none → y.atLimitCount =
        if |(s.complete f).clock.rate| = 100000000 ∧ x.atLimitCount < 7 then x.atLimitCount + 1 else 0)) := by
  obtain ⟨⟨-, moved⟩, -⟩ := State.decision_spec (s := s) taken
  obtain ⟨-, -, spell, count, -⟩ := s.decided_steer f
  obtain ⟨_, _, _, _, decided⟩ := s.decided_steer_eq f
  obtain ⟨plain, ordered⟩ := State.complete_atLimitCount (f := f) run
  have carried := State.complete_carries (f := f) run
  intro x y m
  have spells : s.spellChanges f = false ↔ ¬x.Moves y.nodeState y.refSelected := by
    rw [show y.nodeState = _ from carried.nodeState, show y.refSelected = _ from carried.refSelected, Steering.Moves, not_or,
      not_ne_iff, not_ne_iff, spell, decided]
  refine ⟨fun moves => ?_, fun stays => ⟨fun none_ => ?_, fun some_ => ?_⟩⟩
  · have zero : (s.decided f).steer.atLimitCount = 0 := by
      rw [show y.nodeState = _ from carried.nodeState, show y.refSelected = _ from carried.refSelected] at moves
      obtain ⟨-, -, -, zero, -⟩ := moved moves
      rw [decided]
      exact zero
    by_cases none_ : m.rateStep = none
    · exact (plain none_).trans zero
    · refine (ordered none_).trans (if_neg fun h => ?_)
      exact spells.mp h.1 moves
  · exact (plain none_).trans (count (spells.mpr stays))
  · rw [show y.atLimitCount = _ from ordered some_, count (spells.mpr stays), spells.mpr stays]
    simp only [true_and]
    rfl

/-- The counters after a completion (R96). -/
theorem State.complete_counters : s.steer.CountersFollow (s.complete f).steer := by
  obtain ⟨⟨stays, moved⟩, -⟩ := State.decision_spec (s := s) taken
  obtain ⟨limit, -⟩ := State.complete_limit taken run
  have carried := State.complete_carries (f := f) run
  rw [Steering.CountersFollow, carried.nodeState, carried.refSelected, carried.listenCount, carried.agreementCount,
    carried.excessCount, carried.holdoverAge]
  refine ⟨stays, fun moves => ?_⟩
  obtain ⟨listen, agreement, excess, -, age⟩ := moved moves
  rw [carried.nodeState, carried.refSelected] at limit
  exact ⟨listen, agreement, excess, limit moves, age⟩

end Run

end Completed

section Run

variable {s : State} {f : Flight} (run : s.running = true)
include run

/-- OSC_RANGE after a completion (R101). -/
theorem State.complete_oscRange : let t := s.complete f; let m := t.round.published
    t.flag 9 = true ↔ s.flag 9 = true ∨ (m.rateStep ≠ none ∧ ¬s.steer.Moves t.steer.nodeState t.steer.refSelected ∧
      |t.clock.rate| = 100000000 ∧ 7 ≤ s.steer.atLimitCount) := by
  intro t m
  have published : m = s.summaryOf f := State.complete_published s run
  have flags := s.complete_flag_iff f run 9
  simp only [Fin.reduceEq, false_and, false_or, or_false, true_and] at flags
  rw [published, Steering.Moves, not_or, not_ne_iff, not_ne_iff, and_assoc]
  exact flags

/-- The at-limit count and OSC_RANGE after a completion: eight orders at the rate limit in one spell report (R96, R101). -/
theorem State.complete_limit_spec (taken : f.overtaken = false) : let x := s.steer; let t := s.complete f
    let y := t.steer; let m := t.round.published; let changed := x.Moves y.nodeState y.refSelected
    (changed ∨ m.rateStep = none → t.flag 9 = s.flag 9) ∧
    (¬changed → m.rateStep = none → y.atLimitCount = x.atLimitCount) ∧
    (¬changed → m.rateStep ≠ none →
      (|t.clock.rate| ≠ 100000000 → y.atLimitCount = 0 ∧ t.flag 9 = s.flag 9) ∧
      (|t.clock.rate| = 100000000 → x.atLimitCount < 7 → y.atLimitCount = x.atLimitCount + 1 ∧ t.flag 9 = s.flag 9) ∧
      (|t.clock.rate| = 100000000 → 7 ≤ x.atLimitCount → y.atLimitCount = 0 ∧ t.flag 9 = true)) := by
  intro x t y m changed
  have oscRange : t.flag 9 = true ↔ s.flag 9 = true ∨ (m.rateStep ≠ none ∧ ¬changed ∧ |t.clock.rate| = 100000000 ∧
    7 ≤ x.atLimitCount) := State.complete_oscRange run
  obtain ⟨-, count⟩ := State.complete_limit taken run
  have unreported (h : ¬(m.rateStep ≠ none ∧ ¬changed ∧ |t.clock.rate| = 100000000 ∧ 7 ≤ x.atLimitCount)) :
      t.flag 9 = s.flag 9 := Bool.eq_iff_iff.mpr (oscRange.trans (or_iff_left h))
  refine ⟨fun h => unreported fun ⟨some_, same, _⟩ => h.elim same some_, fun same => (count same).1, fun same some_ => ?_⟩
  have ordered := (count same).2 some_
  refine ⟨fun free => ?_, fun full few => ?_, fun full many => ?_⟩
  · exact ⟨ordered.trans (if_neg fun h => free h.1), unreported fun ⟨_, _, full, _⟩ => free full⟩
  · exact ⟨ordered.trans (if_pos ⟨full, few⟩), unreported fun ⟨_, _, _, many⟩ => absurd few (not_lt.mpr many)⟩
  · exact ⟨ordered.trans (if_neg fun h => absurd h.2 (not_lt.mpr many)), oscRange.mpr (.inr ⟨some_, same, full, many⟩)⟩

/-- An overtaken round holds, and of the record moves what Table 5-6 moves in HOLDOVER, the class, and the host-timescale flag (R98,
R111, R112, R125). -/
theorem State.complete_overtaken (late : f.overtaken = true) :
    let x := s.steer; let t := s.complete f; let y := t.steer; let m := t.round.published
    m.action = .hold ∧ m.rateStep = none ∧ m.correction = none ∧
    y = { x with
      hostTimescale := y.hostTimescale, accuracyClass := y.accuracyClass
      holdoverAge := if x.nodeState = .holdover then min 65535 (x.holdoverAge + 1) else x.holdoverAge
      estimate := if x.nodeState = .holdover then min 2147483647 (x.holdoverEntry + y.holdoverAge * s.config.growth)
        else x.estimate } ∧
    y.accuracyClass = (if x.nodeState = .track ∨ x.nodeState = .holdover ∨ x.nodeState = .anchored
      then min 15 (bitLength y.estimate) else 15) ∧
    (y.hostTimescale = true ↔ x.hostTimescale = true ∧ (s.ref.state = .valid → t.ref.state = .valid)) ∧
    t.flag 9 = s.flag 9 := by
  intro x t y m
  obtain ⟨b, judged⟩ := s.judged_steer_eq f
  obtain ⟨noCorrection, noEstimate⟩ := Flight.result_absent (c := s.config) (id := s.ownId) (quiet := s.round.quiet) (.inl late)
  have decision : s.decision f = (s.judged f).steer.overtaken := Steering.decideRound_of_overtaken late
  have carried : t.Carries (s.judged f).steer.overtaken := decision ▸ State.complete_carries run
  have steer : y = (s.judged f).steer.overtaken.steer.finish (s.judged f).steer s.config
      (f.result s.config s.ownId s.round.quiet) := by
    rw [← decision]
    exact State.complete_steer_of_hold run (by rw [s.decided_eq f, decision]; rfl)
  rw [judged] at steer
  obtain ⟨record, class_⟩ := Steering.finish_of_overtaken s.config steer late noEstimate
  have host : y.hostTimescale = b := congrArg Steering.hostTimescale record
  have rateStep : m.rateStep = none := carried.rateStep
  refine ⟨carried.action, rateStep, ?correction, ?record, class_.trans (if_congr (NodeState.settled_iff _) rfl rfl), ?host, ?flag⟩
  case correction =>
    rw [show m = s.summaryOf f from State.complete_published s run]
    exact noCorrection
  case record =>
    rw [host]
    exact record
  case host =>
    have kept : y.hostTimescale = (s.judged f).steer.hostTimescale := by rw [judged, host]
    rw [kept, State.complete_refState run]
    exact s.judged_hostTimescale f
  case flag =>
    exact Bool.eq_iff_iff.mpr ((State.complete_oscRange run).trans (or_iff_left fun h => h.1 rateStep))

end Run

/-! ## The statement -/

/-- Settles O28: the precedence of R98 names the decision that the completion carries, the equation of that decision gives its row,
and step 5 and the issue give the estimates, the counts and the UTC values. -/
theorem ordinaryDecisions : Obligations.OrdinaryDecisions := by
  intro e s f u g x hh hr hf
  have run : u.running = true := u.running_of hh hr
  refine ⟨u.complete f, State.exec_roundCompletion hh hr hf, ?_⟩
  intro m y aged settled fits gives carries
  have published : m = u.summaryOf f := State.complete_published u run
  have offered : m.offer = (f.offer g).map fun o => (o.mean, o.agreeing) := by rw [published]; rfl
  refine ⟨⟨f.epochSet, f.epochSet_ascending, f.mem_epochSet, ?offer⟩, State.complete_overtaken run, fun taken => ?decision⟩
  case offer =>
    intro k n mean agreeing number
    have hm : f.epochMean = mean := f.epochMean_eq
    have ha : f.agreeingLanes g = agreeing := by simp only [Flight.agreeingLanes, hm]; rfl
    refine ⟨?_, fun none_ => by rw [offered, none_]; rfl, fun o ho => ?_⟩
    · rw [f.offer_ne_none_iff g, f.seeksEpoch_iff, ha, and_assoc]
    · obtain ⟨hmean, count, most, common⟩ := f.offer_spec g ho
      rw [ha] at count most common
      rw [hm] at hmean
      exact ⟨hmean, count, by rw [offered, ho, Option.map_some, hmean, count], most, common⟩
  case decision =>
    obtain ⟨b, judged⟩ := u.judged_steer_eq f
    have carried : (u.complete f).Carries (({ x with hostTimescale := b } : Steering).decideRound g (u.judged f).ref.state
        (f.result g u.ownId u.round.quiet) f.refOffset) := judged ▸ State.complete_carries run
    have correction : m.correction = (f.result g u.ownId u.round.quiet).correction := by rw [published]; rfl
    have judgedUsable : refUsable g (u.judged f).ref.state { x with hostTimescale := b } = true ↔
        (g.refEnable = true ∧ (u.complete f).ref.state = .valid ∧ x.epochKnown = true) := by
      rw [refUsable_iff, State.complete_refState run]
    intro corrected within usable adopts enters changed votes open_ sets
    have utc : sets (u.decided f).steer.utc := State.complete_utc run
    obtain ⟨away, entersHoldover, staysHoldover⟩ := State.complete_estimates taken run
    obtain ⟨unchanged, moved⟩ := State.complete_counters taken run
    obtain ⟨unordered, uncounted, ordered⟩ := State.complete_limit_spec run taken
    refine ⟨fun o adopted ho => ?adopted, fun stays selected unusable => ?released, fun steered => ?byRef,
      fun stays selected us c hc => ?steered, fun stays clear ⟨us, en⟩ => ?entered, fun stays clear free out => ?ordinary,
      away, entersHoldover, staysHoldover, unchanged, moved, unordered, uncounted, ordered, fun stays => ?utc⟩
    case adopted =>
      obtain ⟨action, state, selected, count, epoch⟩ := (carried.of_adopts taken adopted ho).adopted
      refine ⟨action, state, selected, count, epoch, ?_⟩
      rw [← State.decided_utc_of_adopts taken adopted ho]
      exact utc
    case released => exact (carried.of_released taken stays selected fun us => unusable (judgedUsable.mp us)).released
    case byRef =>
      have source := Flight.source_of_byRef (c := g) (id := u.ownId) (quiet := u.round.quiet) (f.byRef_iff.mpr steered)
      refine ⟨by rw [published]; exact source, ?_⟩
      rw [correction, Flight.result_correction taken, source]
      rfl
    case steered =>
      have ordinary := carried.of_steered taken stays selected (judgedUsable.mpr us)
      obtain ⟨-, epoch, -⟩ := ordinary.ordinary_keeps
      obtain ⟨-, -, known⟩ := us
      rw [correction] at hc
      exact ⟨epoch known, fun hn => ordinary.acquireRef hn selected hc, fun hn => ordinary.anchored hn selected hc⟩
    case entered =>
      obtain ⟨d, entered, entry, selected, epoch⟩ := carried.of_entered taken stays clear (judgedUsable.mpr us) en
      obtain ⟨-, -, known⟩ := us
      refine ⟨selected, epoch.trans known, fun early => entry.entered_early entered early, fun late o ho => ?_⟩
      rw [correction]
      exact State.Carries.entered_late (x := { x with hostTimescale := b }) entry (ho ▸ entered) late
    case ordinary =>
      have ordinary := carried.of_ordinary taken stays clear fun h => out ⟨judgedUsable.mp h.1, h.2⟩
      obtain ⟨epoch, -, selected⟩ := ordinary.ordinary_keeps
      refine ⟨(selected free).trans clear, epoch, ?_⟩
      rw [correction]
      cases hc : (f.result g u.ownId u.round.quiet).correction with
      | none =>
        cases hn : x.nodeState
        case listen => exact ordinary.listen_none hn hc
        case acquire => exact ordinary.acquire_none hn clear hc
        case track =>
          obtain ⟨action, state, age⟩ := ordinary.track_none hn hc
          obtain ⟨estimate, entry⟩ := entersHoldover state (ne_of_eq_of_ne hn nofun)
          exact ⟨action, state, age, entry, estimate⟩
        case holdover =>
          obtain ⟨action, state, age⟩ := ordinary.holdover_none hn hc
          obtain ⟨estimate, -⟩ := staysHoldover state hn
          exact ⟨action, state, age, estimate⟩
        all_goals trivial
      | some c =>
        cases hn : x.nodeState
        case listen => exact ordinary.listen_some hn hc
        case acquire => exact ordinary.acquire_some hn clear hc
        case track => exact ordinary.track_some hn hc
        case holdover => exact ordinary.holdover_some hn hc
        all_goals trivial
    case utc =>
      have considered : (f.result g u.ownId u.round.quiet).votes = votes := RoundResult.votes_eq _
      obtain ⟨major, other⟩ := State.decided_utc taken run stays
      rw [considered] at major other
      exact ⟨fun v free most => major v free most ▸ utc, fun held => other held ▸ utc⟩

end Sys2Proof.Machine
end

section
/-! SUPPORT. The commands of the Reference Unit and the timescale that act by one comparison: ANCHOR_TIME judged, the named readings
that expire, and the miss instant (R119, R123, R125, R135). -/

namespace Sys2Proof.Machine

variable {s : State}

/-! ## When the part acts -/

theorem State.clocked_of (hh : s.pins.resetAsserted = false) (hc : s.steer.nodeState.clocked = true) : s.clocked = true := by
  simp [State.clocked, State.held, hh, hc]

theorem State.refActs_of (hh : s.pins.resetAsserted = false) (hr : s.steer.nodeState.running = true)
    (he : s.config.refEnable = true) : s.refActs = true := by
  simp [State.refActs, s.running_of hh hr, he]

/-! ## ANCHOR_TIME (R123) -/

theorem State.exec_anchorTime {e : Elapsed} (seconds : BitVec 40) (utcOffset : BitVec 16) (flags : Byte)
    (hh : (s.elapse e).pins.resetAsserted = false) : exec (.anchorTime e seconds utcOffset flags) s =
      .next ((s.elapse e).takeAnchorTime seconds utcOffset flags) :=
  congrArg Host.Outcome.next (if_neg (by rw [State.held, hh]; nofun))

theorem State.judgeAnchorTime_of_unable (utcOffset : BitVec 16)
    (h : ¬(s.config.refEnable = true ∧ s.steer.nodeState.running = true)) :
    s.judgeAnchorTime utcOffset = .refuseState := if_pos (by
  rw [Bool.or_eq_true, Bool.not_eq_true', Bool.not_eq_true']
  simpa only [not_and_or, Bool.not_eq_true] using h)

/-- Where the state allows it, the UTC offset decides. -/
theorem State.judgeAnchorTime_of_able (utcOffset : BitVec 16)
    (h : s.config.refEnable = true ∧ s.steer.nodeState.running = true) :
    s.judgeAnchorTime utcOffset = if utcOffset.toInt < -1000 ∨ 1000 < utcOffset.toInt then .refuseArg else .accept :=
  if_neg (by simp [h])

/-- Settles O49: the judgement refuses by the state, then by the offset, and else accepts. -/
theorem anchorTimePends : Obligations.AnchorTimePends := by
  intro e seconds utcOffset flags s u out able inRange hh
  rw [State.exec_anchorTime seconds utcOffset flags hh, State.takeAnchorTime]
  refine ⟨fun unable => ?_, fun ready beyond => ?_, fun ready within => ?_⟩
  · rw [State.judgeAnchorTime_of_unable utcOffset unable]
    rfl
  · rw [State.judgeAnchorTime_of_able utcOffset ready, if_pos (by omega)]
    rfl
  · rw [State.judgeAnchorTime_of_able utcOffset ready, if_neg (by omega)]
    rfl

/-! ## Named readings reached (R123, R125, R135) -/

theorem State.exec_anchorTimeExpiry {e : Elapsed} {a : AnchorTime} (pending : (s.elapse e).ref.pendingTime = some a)
    (run : (s.elapse e).running = true) : exec (.anchorTimeExpiry e) s = .next (
      if (s.elapse e).clock.reading.reached a.expiry
      then { s.elapse e with ref := { (s.elapse e).ref with pendingTime := none } } else s.elapse e) := by
  simp only [exec, execAnchorTimeExpiry, pending, run, Bool.true_and]
  rfl

theorem State.exec_leapGuardExpiry {e : Elapsed} {g : Timestamp} (guard : (s.elapse e).steer.leapGuard = some g)
    (clocked : (s.elapse e).clocked = true) : exec (.leapGuardExpiry e) s = .next (
      if (s.elapse e).clock.reading.reached g
      then { s.elapse e with steer := { (s.elapse e).steer with leapGuard := none } } else s.elapse e) := by
  simp only [exec, execLeapGuardExpiry, guard, clocked, Bool.true_and]
  rfl

theorem State.exec_pulseEnd {e : Elapsed} {k : Fin 4} {g : Timestamp} (named : (s.elapse e).outs.channels[k].pulseEnd = some g)
    (run : (s.elapse e).running = true) : exec (.pulseEnd e k) s = .next (
      if (s.elapse e).clock.reading.reached g then (s.elapse e).modifyChannel k Channel.fall else s.elapse e) := by
  simp only [exec, execPulseEnd, named, run, Bool.true_and]

/-- Settles O36: each expiry by whether the reading has reached what is named. -/
theorem namedExpiriesEnd : Obligations.NamedExpiriesEnd := by
  intro e s u now hh
  refine ⟨fun a pending hr => ?_, fun g guard hc => ?_, fun k g named hr => ?_⟩
  · exact State.exec_anchorTimeExpiry pending (u.running_of hh hr)
  · exact State.exec_leapGuardExpiry guard (State.clocked_of hh hc)
  · exact State.exec_pulseEnd named (u.running_of hh hr)

/-! ## MISS_INSTANT (R119) -/

variable {e : Elapsed}

/-- The miss instant is reached once the corrected elapsed time is 100 us beyond the next whole second (R119). -/
theorem State.missReached_iff (acts : s.refActs = true) : s.missReached = true ↔ s.ref.state ≠ .absent ∧
    ∃ p, s.ref.lastPulse = some p ∧
      ((s.ref.missCount : Int) + 1) * 4000000000 + 400000 ≤ s.clock.reading.diff p - s.ref.correction := by
  unfold State.missReached State.pastMiss RefUnit.elapsedAt
  by_cases absent : s.ref.state = .absent
  · simp [absent]
  · rw [if_pos ⟨acts, absent⟩]
    cases s.ref.lastPulse with
    | none => simp
    | some p => simp [absent, Config.qnsPerSecond]

theorem State.exec_missInstant (b : Bool) (reached : (s.elapse e).missReached = b) :
    exec (.missInstant e) s = .next (if b then (s.elapse e).takeMiss else s.elapse e) := by
  simp only [exec, execMissInstant, reached]

theorem State.takeMiss_of_qualifying (h : s.ref.state = .qualifying) :
    s.takeMiss = { s with ref := { s.ref with state := .absent, qualCount := 0, lastPulse := none } } := by
  unfold State.takeMiss
  rw [h]
  rfl

/-- A held reference counts its first miss and is lost at its second. -/
theorem State.takeMiss_of_held (h : s.ref.state = .valid ∨ s.ref.state = .distrusted) :
    s.takeMiss = if s.ref.missCount = 0 then s.setRef { s.ref with missCount := 1 }
      else (s.setRefUnit s.ref.lose).report .refLost := by
  unfold State.takeMiss
  rcases h with h | h <;> rw [h]

/-- Settles O35: the miss by the REF state, and the loss by the miss count. -/
theorem missInstantMoves : Obligations.MissInstantMoves := by
  intro e s u r due hh hr he
  have reached : u.missReached = true ↔ due := State.missReached_iff (State.refActs_of hh hr he)
  have early (h : ¬due) : exec (.missInstant e) s = .next u :=
    State.exec_missInstant false (Bool.eq_false_iff.mpr (mt reached.mp h))
  have taken (h : due) : exec (.missInstant e) s = .next u.takeMiss := State.exec_missInstant true (reached.mpr h)
  refine ⟨early, fun h qualifying => ?_, fun h held first => ?_, fun h held second => ?_⟩
  · rw [taken h, State.takeMiss_of_qualifying qualifying]
  · rw [taken h, State.takeMiss_of_held held, if_pos first]
    rfl
  · rw [taken h, State.takeMiss_of_held held, if_neg (Nat.ne_of_gt second), State.setRefUnit_eq]
    have lost : (!decide (r.state = .valid ∧ r.lose.state ≠ .valid)) = decide (r.state ≠ .valid) := by
      simp [RefUnit.lose]
    rw [show u.ref = r from rfl, lost]
    rfl

end Sys2Proof.Machine
end

section
/-! SUPPORT. Leaps and tops of second: at which seconds a leap falls and which steps jump over one, and what TOP_OF_SECOND moves
(R127, R133, R143, R151). -/

namespace Sys2Proof.Machine

/-! ## Leaps (R127) -/

variable (x : UtcValues)

theorem UtcValues.leapsAt_iff (e : Int) : x.leapsAt e = true ↔
    x.pending = true ∧ (e - 1 - x.offset) % 86400 = if x.deletion then 86398 else 0 := by
  unfold UtcValues.leapsAt
  cases x.deletion <;> simp

/-- The first second from `low` on that a leap can begin lies less than a day on. -/
theorem UtcValues.leapsWithin_iff (low high : Int) :
    x.leapsWithin low high = true ↔ ∃ e, low ≤ e ∧ e ≤ high ∧ x.leapsAt e = true := by
  simp only [UtcValues.leapsWithin, UtcValues.leapsAt_iff, Bool.and_eq_true, decide_eq_true_eq]
  cases x.deletion
  all_goals
    simp only [Bool.false_eq_true, if_false, if_true]
    constructor
    · rintro ⟨pending, inside⟩
      exact ⟨_, by omega, inside, pending, by omega⟩
    · rintro ⟨e, above, below, pending, day⟩
      exact ⟨pending, by omega⟩

theorem Timestamp.seconds_lt (t : Timestamp) : t.seconds < 1099511627776 :=
  (Nat.div_lt_iff_lt_mul (by decide)).mpr t.qns.isLt

/-- A step jumps over a leap where one falls at a top between, the seconds counted modulo 2^40 (log entry 9). -/
theorem UtcValues.leapJumped_iff (t : Timestamp) (c : Int) : x.leapJumped t c = true ↔ ∃ n : Nat, 0 < n ∧
    ((t.seconds + n : Nat) : Int) * 4000000000 ≤ (t.qns.val : Int) + c ∧
    x.leapsAt ((t.seconds + n) % 1099511627776 : Nat) = true := by
  have start := Timestamp.seconds_lt t
  unfold UtcValues.leapJumped
  simp only [Config.qnsPerSecond]
  generalize hz : (t.qns.val : Int) + c = z
  have landed (m : Int) : m * 4000000000 ≤ z ↔ m ≤ z / 4000000000 := by omega
  simp only [landed]
  generalize t.seconds = first at start ⊢
  generalize z / 4000000000 = high
  by_cases straight : high < 1099511627776
  · rw [if_pos (by exact_mod_cast straight), UtcValues.leapsWithin_iff]
    constructor
    · rintro ⟨e, above, below, leap⟩
      refine ⟨(e - first).toNat, by omega, by omega, ?_⟩
      rwa [show (((first + (e - first).toNat) % 1099511627776 : Nat) : Int) = e by omega]
    · rintro ⟨n, positive, below, leap⟩
      exact ⟨((first + n) % 1099511627776 : Nat), by omega, by omega, leap⟩
  · rw [if_neg (by exact_mod_cast straight), Bool.or_eq_true, UtcValues.leapsWithin_iff, UtcValues.leapsWithin_iff]
    constructor
    · rintro (⟨e, above, below, leap⟩ | ⟨e, above, below, leap⟩)
      · refine ⟨(e - first).toNat, by omega, by omega, ?_⟩
        rwa [show (((first + (e - first).toNat) % 1099511627776 : Nat) : Int) = e by omega]
      · refine ⟨(e + 1099511627776 - first).toNat, by omega, by omega, ?_⟩
        rwa [show (((first + (e + 1099511627776 - first).toNat) % 1099511627776 : Nat) : Int) = e by omega]
    · rintro ⟨n, positive, below, leap⟩
      by_cases wraps : first + n < 1099511627776
      · exact .inl ⟨_, by omega, by omega, leap⟩
      · exact .inr ⟨_, by omega, by omega, leap⟩

/-! ## TOP_OF_SECOND (R127, R133, R143, R151) -/

variable {s : State} {e : Elapsed} {top : Timestamp}

theorem State.exec_topOfSecond (named : (s.elapse e).clock.named.top = some top) (clocked : (s.elapse e).clocked = true)
    (reached : (s.elapse e).clock.reading.reached top = true) :
    exec (.topOfSecond e) s = .next ((s.elapse e).takeTop top) := by
  simp only [exec, execTopOfSecond, named, clocked, reached, Bool.and_true, if_true]

theorem State.takeTop_steer (s : State) (top : Timestamp) : (s.takeTop top).steer = s.steer.leapAt top := by
  unfold State.takeTop
  simp only
  split <;> rfl

theorem State.takeTop_frame (s : State) (top : Timestamp) : s.takeTop top = { s.nameTop top with
    steer := (s.takeTop top).steer, outs := (s.takeTop top).outs, code := (s.takeTop top).code } := by
  unfold State.takeTop
  simp only
  split <;> rfl

theorem State.takeTop_of_fault (fault : s.steer.nodeState = .fault) :
    s.takeTop top = (s.nameTop top).setSteer (s.steer.leapAt top) := by
  unfold State.takeTop
  rw [fault]
  rfl

theorem State.takeTop_of_running (run : s.steer.nodeState.running = true) :
    s.takeTop top = ((s.nameTop top).setSteer (s.steer.leapAt top)).driveTop top := if_pos run

theorem NodeState.running_of_clocked {st : NodeState} (clocked : st.clocked = true) (healthy : st ≠ .fault) :
    st.running = true := by
  cases st <;> trivial

theorem Steering.leapAt_nodeState (y : Steering) (top : Timestamp) : (y.leapAt top).nodeState = y.nodeState := by
  obtain ⟨u, g, h⟩ := y.leapAt_cases top
  rw [h]

/-- Settles O37: the leap falls at the top or not, the node drives its outputs or is in FAULT, and a step jumps over the tops
between. -/
theorem topOfSecondMovesTimescale : Obligations.TopOfSecondMovesTimescale := by
  intro e s top u x day leaps hh hc named reached
  have atTop : x.leapsAt top.seconds = true ↔ leaps := x.leapsAt_iff top.seconds
  have steer := u.takeTop_steer top
  refine ⟨u.takeTop top, State.exec_topOfSecond named (State.clocked_of hh hc) reached, ?frame, fun still => ?still,
    fun leap => ?leap, fun fault => ?fault, fun healthy => ?driven, fun c _ => ?jumped⟩
  case frame => exact u.takeTop_frame top
  case still => rw [steer, Steering.leapAt, if_neg (mt atTop.mp still)]
  case leap =>
    rw [steer, Steering.leapAt, if_pos (atTop.mpr leap)]
    rfl
  case fault =>
    rw [State.takeTop_of_fault fault]
    exact ⟨rfl, rfl⟩
  case driven =>
    rw [State.takeTop_of_running (NodeState.running_of_clocked hc healthy), ← u.steer.leapAt_nodeState top]
    exact ⟨rfl, rfl, rfl⟩
  case jumped => simpa only [UtcValues.leapsAt_iff] using x.leapJumped_iff u.clock.reading c

end Sys2Proof.Machine
end

section
/-! SUPPORT. A pulse on REF and the judgement of a round, by the REF state: how each moves the reference, and what it leaves of the
part (R116 to R118, R120 to R122, R125). -/

namespace Sys2Proof.Machine

/-! ## On time, and the offset of a pulse (R116, R120) -/

section Pulse

variable (r : RefUnit) (t : Timestamp)

theorem RefUnit.onTime_iff : r.onTime t = true ↔ ∃ p, r.lastPulse = some p ∧
    |t.diff p - r.correction - ((r.missCount : Int) + 1) * 4000000000| ≤ 400000 := by
  unfold RefUnit.onTime RefUnit.elapsedAt
  cases r.lastPulse <;> simp [Config.qnsPerSecond]

theorem refOffsetOf_eq : refOffsetOf t =
    if (t.fraction : Int) ≤ 2000000000 then -(t.fraction : Int) else 4000000000 - (t.fraction : Int) :=
  if_congr (by omega) rfl rfl

/-! ## The unit at a pulse (R117, R118) -/

/-- The unit after a pulse stamped `t`: moved by the tables, its stamp kept (R116). -/
def RefUnit.pulsed : RefUnit := (r.judgePulse t).keepStamp t

variable {r t}

theorem RefUnit.pulsed_of_absent (h : r.state = .absent) :
    r.pulsed t = { r with state := .qualifying, qualCount := 0, lastPulse := some t, correction := 0 } := by
  unfold RefUnit.pulsed RefUnit.judgePulse
  rw [h]
  rfl

/-- A pulse off time begins the qualification afresh. -/
theorem RefUnit.pulsed_of_restart (h : r.state = .qualifying) (off : r.onTime t = false) :
    r.pulsed t = { r with qualCount := 0, lastPulse := some t, correction := 0 } := by
  unfold RefUnit.pulsed RefUnit.judgePulse
  rw [h]
  simp only [off]
  rfl

theorem RefUnit.pulsed_of_counting (h : r.state = .qualifying) (on : r.onTime t = true) (few : r.qualCount < 3) :
    r.pulsed t = { r with qualCount := r.qualCount + 1, lastPulse := some t, correction := 0 } := by
  unfold RefUnit.pulsed RefUnit.judgePulse
  rw [h]
  simp only [on, few, if_true]
  rfl

/-- The fourth pulse on time makes the reference VALID and gives its first offset. -/
theorem RefUnit.pulsed_of_qualified (h : r.state = .qualifying) (on : r.onTime t = true) (enough : 3 ≤ r.qualCount) :
    r.pulsed t = { r with
      state := .valid, qualCount := 0, lastPulse := some t, correction := 0, lastOffset := some (refOffsetOf t)
      fresh := true } := by
  unfold RefUnit.pulsed RefUnit.judgePulse
  rw [h]
  simp only [on, not_lt.mpr enough, if_false]
  rfl

theorem RefUnit.pulsed_of_kept (h : r.state = .valid ∨ r.state = .distrusted) (on : r.onTime t = true) :
    r.pulsed t = { r with
      missCount := 0, lastPulse := some t, correction := 0, lastOffset := some (refOffsetOf t), fresh := true } := by
  unfold RefUnit.pulsed RefUnit.judgePulse
  rcases h with h | h <;> rw [h] <;> simp only [on, if_true] <;> rfl

theorem RefUnit.pulsed_of_lost (h : r.state = .valid ∨ r.state = .distrusted) (off : r.onTime t = false) :
    r.pulsed t = { r with
      state := .qualifying, qualCount := 0, lastPulse := some t, correction := 0, missCount := 0, lastOffset := none
      fresh := false, outside := 0, inside := 0 } := by
  unfold RefUnit.pulsed RefUnit.judgePulse
  rcases h with h | h <;> rw [h] <;> simp only [off] <;> rfl

theorem RefUnit.pulseLoses_iff :
    r.pulseLoses t = true ↔ (r.state = .valid ∨ r.state = .distrusted) ∧ r.onTime t = false := by
  simp [RefUnit.pulseLoses]

/-- A pulse leaves the unit VALID where it was VALID or qualifies, on time. -/
theorem RefUnit.pulsed_valid_iff : (r.pulsed t).state = .valid ↔
    r.onTime t = true ∧ (r.state = .valid ∨ (r.state = .qualifying ∧ 3 ≤ r.qualCount)) := by
  cases on : r.onTime t <;> cases h : r.state
  case false.absent | true.absent => simp [RefUnit.pulsed_of_absent h]
  case false.qualifying => simp [RefUnit.pulsed_of_restart h on, h]
  case true.qualifying =>
    rcases Nat.lt_or_ge r.qualCount 3 with few | enough
    · simp [RefUnit.pulsed_of_counting h on few, h, few]
    · simp [RefUnit.pulsed_of_qualified h on enough, enough]
  case false.valid => simp [RefUnit.pulsed_of_lost (.inl h) on]
  case true.valid => simp [RefUnit.pulsed_of_kept (.inl h) on, h]
  case false.distrusted => simp [RefUnit.pulsed_of_lost (.inr h) on]
  case true.distrusted => simp [RefUnit.pulsed_of_kept (.inr h) on, h]

/-- A pulse leaves an anchor time pending (R123). -/
theorem RefUnit.pulsed_pendingTime : (r.pulsed t).pendingTime = r.pendingTime := by
  cases on : r.onTime t <;> cases h : r.state
  case false.absent | true.absent => rw [RefUnit.pulsed_of_absent h]
  case false.qualifying => rw [RefUnit.pulsed_of_restart h on]
  case true.qualifying =>
    rcases Nat.lt_or_ge r.qualCount 3 with few | enough
    · rw [RefUnit.pulsed_of_counting h on few]
    · rw [RefUnit.pulsed_of_qualified h on enough]
  case false.valid => rw [RefUnit.pulsed_of_lost (.inl h) on]
  case true.valid => rw [RefUnit.pulsed_of_kept (.inl h) on]
  case false.distrusted => rw [RefUnit.pulsed_of_lost (.inr h) on]
  case true.distrusted => rw [RefUnit.pulsed_of_kept (.inr h) on]

end Pulse

/-! ## REF_PULSE before any anchor time (R118, R125) -/

/-- The part once a pulse has moved the reference, an anchor time apart: REF_LOST is reported where it is lost, and the
host-timescale flag falls with VALID. -/
def State.pulsed (s : State) : State :=
  (s.setRefUnit (s.ref.pulsed s.clock.reading)).reportIf (s.ref.pulseLoses s.clock.reading) .refLost

theorem State.takePulse_eq (s : State) : s.takePulse =
    if (s.ref.pulsed s.clock.reading).state = .valid then s.pulsed.applyAnchor s.clock.reading else s.pulsed := rfl

theorem State.pulsed_eq (s : State) : s.pulsed = { s with
    ref := s.ref.pulsed s.clock.reading
    cond := if s.ref.pulseLoses s.clock.reading = true then s.cond.raise 10 else s.cond
    steer := if s.ref.state = .valid ∧ (s.ref.pulsed s.clock.reading).state ≠ .valid
      then { s.steer with hostTimescale := false } else s.steer } := by
  unfold State.pulsed State.setRefUnit
  cases s.ref.pulseLoses s.clock.reading <;> simp only <;> split <;> rfl

section Moved

variable {s : State}

theorem State.pulsed_ref : s.pulsed.ref = s.ref.pulsed s.clock.reading := by rw [State.pulsed_eq]

theorem State.pulsed_cond_of_unheld (h : s.ref.state = .absent ∨ s.ref.state = .qualifying) : s.pulsed.cond = s.cond := by
  rw [State.pulsed_eq]
  exact if_neg fun loses => by rcases RefUnit.pulseLoses_iff.mp loses with ⟨held | held, -⟩ <;> simp [held] at h

/-- A held reference on time is measured (R118, R120). -/
theorem State.pulsed_of_kept (h : s.ref.state = .valid ∨ s.ref.state = .distrusted)
    (on : s.ref.onTime s.clock.reading = true) : s.pulsed.cond = s.cond ∧ s.pulsed.ref = { s.ref with
      missCount := 0, lastPulse := some s.clock.reading, correction := 0
      lastOffset := some (refOffsetOf s.clock.reading), fresh := true } := by
  rw [State.pulsed_eq]
  exact ⟨if_neg fun loses => absurd (on.symm.trans (RefUnit.pulseLoses_iff.mp loses).2) nofun, RefUnit.pulsed_of_kept h on⟩

/-- A held reference off time is lost, and REF_LOST reported (R118). -/
theorem State.pulsed_of_lost (h : s.ref.state = .valid ∨ s.ref.state = .distrusted)
    (off : s.ref.onTime s.clock.reading = false) : s.pulsed.cond = s.cond.raise 10 ∧ s.pulsed.ref = { s.ref with
      state := .qualifying, qualCount := 0, lastPulse := some s.clock.reading, correction := 0, missCount := 0
      lastOffset := none, fresh := false, outside := 0, inside := 0 } := by
  rw [State.pulsed_eq]
  exact ⟨if_pos (RefUnit.pulseLoses_iff.mpr ⟨h, off⟩), RefUnit.pulsed_of_lost h off⟩

end Moved

theorem State.applyAnchor_of_none {s : State} (t : Timestamp) (h : s.ref.pendingTime = none) : s.applyAnchor t = s := by
  unfold State.applyAnchor
  rw [h]

theorem State.exec_refPulse {s : State} {e : Elapsed} (acts : (s.elapse e).refActs = true) :
    exec (.refPulse e) s = .next (s.elapse e).takePulse := by
  simp only [exec, execRefPulse, acts, if_true]

/-- Without an anchor time to apply, a pulse only moves the reference. -/
theorem State.takePulse_of_unanchored {s : State}
    (h : (s.ref.pulsed s.clock.reading).state = .valid → s.ref.pendingTime = none) : s.takePulse = s.pulsed := by
  rw [State.takePulse_eq]
  split
  · next valid =>
    have pending : s.pulsed.ref.pendingTime = none := by
      rw [State.pulsed_eq]
      exact RefUnit.pulsed_pendingTime.trans (h valid)
    exact State.applyAnchor_of_none _ pending
  · rfl

/-! ## The judgement of a round (R121, R122) -/

section Judge

variable {r : RefUnit} (isInside selected : Bool)

theorem satSucc_eq_limit (n : Nat) : satSucc 8 n = 8 ↔ 7 ≤ n := by
  unfold satSucc
  omega

theorem insideRange_iff (c : ConfigRecord) (z : Range) (o : Int) :
    insideRange c z o = true ↔ z.low - c.splitBound ≤ o ∧ o ≤ z.high + c.splitBound := by
  simp [insideRange]

theorem RefUnit.judgeRound_of_unheld (h : r.state = .absent ∨ r.state = .qualifying) :
    r.judgeRound isInside selected = r := by
  unfold RefUnit.judgeRound
  rcases h with h | h <;> rw [h]

/-- Eight outside rounds in a row while REF was selected distrust a VALID reference (R121). -/
theorem RefUnit.judgeRound_of_valid (h : r.state = .valid) : r.judgeRound isInside selected =
    if selected = false ∨ isInside = true then { r with outside := 0 }
    else if 7 ≤ r.outside then { r with state := .distrusted, outside := 0, inside := 0 }
    else { r with outside := r.outside + 1 } := by
  unfold RefUnit.judgeRound
  rw [h]
  simp only [Bool.or_eq_true, Bool.not_eq_true', satSucc_eq_limit]
  have count (few : ¬7 ≤ r.outside) : satSucc 8 r.outside = r.outside + 1 := by unfold satSucc; omega
  split_ifs with accepted many
  · rfl
  · rfl
  · rw [count many]

/-- Eight inside rounds in a row end the distrust (R122). -/
theorem RefUnit.judgeRound_of_distrusted (h : r.state = .distrusted) : r.judgeRound isInside selected =
    if isInside = false then { r with inside := 0 }
    else if 7 ≤ r.inside then { r with state := .valid, outside := 0, inside := 0 }
    else { r with inside := r.inside + 1 } := by
  unfold RefUnit.judgeRound
  rw [h]
  simp only [Bool.not_eq_true', satSucc_eq_limit]
  have count (few : ¬7 ≤ r.inside) : satSucc 8 r.inside = r.inside + 1 := by unfold satSucc; omega
  split_ifs with rejected many
  · rfl
  · rfl
  · rw [count many]

/-- The judgement of a round, by the REF state (R121, R122). -/
theorem RefUnit.judgeRound_spec (r : RefUnit) : let v := r.judgeRound isInside selected
    (r.state = .absent ∨ r.state = .qualifying → v.state = r.state ∧ v.outside = r.outside ∧ v.inside = r.inside) ∧
    (r.state = .valid →
      (selected = false ∨ isInside = true → v.state = .valid ∧ v.outside = 0) ∧
      (selected = true → ¬isInside = true → r.outside < 7 → v.state = .valid ∧ v.outside = r.outside + 1) ∧
      (selected = true → ¬isInside = true → 7 ≤ r.outside → v.state = .distrusted ∧ v.outside = 0 ∧ v.inside = 0)) ∧
    (r.state = .distrusted →
      (¬isInside = true → v.state = .distrusted ∧ v.inside = 0) ∧
      (isInside = true → r.inside < 7 → v.state = .distrusted ∧ v.inside = r.inside + 1) ∧
      (isInside = true → 7 ≤ r.inside → v.state = .valid ∧ v.outside = 0 ∧ v.inside = 0)) := by
  intro v
  refine ⟨fun unheld => ?_, fun valid => ?_, fun distrusted => ?_⟩
  · rw [show v = r from RefUnit.judgeRound_of_unheld _ _ unheld]
    exact ⟨rfl, rfl, rfl⟩
  · have judged : v = _ := RefUnit.judgeRound_of_valid isInside selected valid
    refine ⟨fun accepted => ?_, fun chosen out few => ?_, fun chosen out many => ?_⟩
    · rw [judged, if_pos accepted]
      exact ⟨valid, rfl⟩
    · rw [judged, if_neg (by simp [chosen, out]), if_neg (not_le.mpr few)]
      exact ⟨valid, rfl⟩
    · rw [judged, if_neg (by simp [chosen, out]), if_pos many]
      exact ⟨rfl, rfl, rfl⟩
  · have judged : v = _ := RefUnit.judgeRound_of_distrusted isInside selected distrusted
    refine ⟨fun out => ?_, fun within few => ?_, fun within many => ?_⟩
    · rw [judged, if_pos (Bool.eq_false_iff.mpr out)]
      exact ⟨distrusted, rfl⟩
    · rw [judged, if_neg (by simp [within]), if_neg (not_le.mpr few)]
      exact ⟨distrusted, rfl⟩
    · rw [judged, if_neg (by simp [within]), if_pos many]
      exact ⟨rfl, rfl, rfl⟩

end Judge

section Completion

variable {s : State} {f : Flight}

theorem State.judgeReference_of_unjudged (s : State) {range : PeerRange} {offset : Option Int} (selected : Bool)
    (h : ∀ z o, range = .kept z → offset ≠ some o) : s.judgeReference range offset selected = s := by
  unfold State.judgeReference
  split
  · next z o => exact absurd rfl (h z o rfl)
  · rfl

theorem State.judgeReference_ref (s : State) (z : Range) (o : Int) (selected : Bool) :
    (s.judgeReference (.kept z) (some o) selected).ref = s.ref.judgeRound (insideRange s.config z o) selected := by
  simp only [State.judgeReference, State.reportIf_ref, State.setRefUnit_eq, State.setSteer_ref, State.setRef_ref]

theorem State.judged_ref_of_unjudged (h : ∀ z o, f.peerRange s.config = .kept z → f.refOffset ≠ some o) :
    (s.judged f).ref = s.ref := by
  have same : s.judged f = s.setRound { s.round with flight := none } := State.judgeReference_of_unjudged _ f.refSelected h
  rw [same]
  rfl

theorem State.judged_ref_of_range {z : Range} {o : Int} (hz : f.peerRange s.config = .kept z) (ho : f.refOffset = some o) :
    (s.judged f).ref = s.ref.judgeRound (insideRange s.config z o) f.refSelected := by
  have range : (f.result s.config s.ownId s.round.quiet).peerRange = .kept z := hz
  unfold State.judged
  simp only [range, ho, State.judgeReference_ref]
  rfl

variable (run : s.running = true)
include run

/-- What a completion's order moves of the judged reference (R116, R120, R123). -/
theorem State.complete_ref_eq : ∃ k o a, (s.complete f).ref =
    { (s.judged f).ref with correction := k, lastOffset := o, pendingTime := a } := by
  rw [s.complete_ref f]
  rcases s.issued_spec f run with ⟨-, e⟩ | ⟨a, -, -, e⟩ | ⟨g, -, e⟩ <;> rw [e]
  · exact ⟨_, _, _, rfl⟩
  · rw [State.takeStep_ref, RefUnit.onStep, (RefUnit.correct_spec _ a).1]
    exact ⟨_, _, _, rfl⟩
  · obtain ⟨k, moved⟩ := ((s.judged f).recorded (s.decided f).steer).slewed_ref
      (rateStepOf s.config g ((f.result s.config s.ownId s.round.quiet).correction.getD 0))
      (clampTo s.config.slewLimit ((f.result s.config s.ownId s.round.quiet).correction.getD 0))
    rw [State.reportIf_ref, State.reportIf_ref, State.setSteer_ref, moved]
    exact ⟨_, _, _, rfl⟩

/-- A completion clears the host-timescale flag exactly where the reference ceases to be VALID (R125). -/
theorem State.complete_hostTimescale : (s.complete f).steer.hostTimescale =
    (s.steer.hostTimescale && decide (s.ref.state = .valid → (s.complete f).ref.state = .valid)) := by
  obtain ⟨u, -, ⟨-, kept, -⟩, -⟩ := (s.judged f).steer.decideRound_shape s.config
    (f.result s.config s.ownId s.round.quiet) (s.judged f).ref.state f.refOffset
  have carried : (s.complete f).steer.hostTimescale = (s.judged f).steer.hostTimescale :=
    (State.complete_carries run).hostTimescale.trans kept
  rw [carried, State.complete_refState run, Bool.eq_iff_iff, Bool.and_eq_true, decide_eq_true_eq]
  exact s.judged_hostTimescale f

/-- SPLIT is reported where a round distrusts the reference (R121). -/
theorem State.complete_split (before : s.ref.state = .valid) (after : (s.complete f).ref.state = .distrusted) :
    (s.complete f).flag 3 = true :=
  (s.complete_flag_iff f run 3).mpr (.inr (.inr (.inr (.inr (.inl ⟨rfl, .inr ⟨before, after⟩⟩)))))

end Completion

/-! ## The statement -/

/-- Settles O33: the table of the REF state for the pulse, and for the completion the judgement by the REF state, which the order
that follows leaves. -/
theorem refPulseMovesState : Obligations.RefPulseMovesState := by
  intro e s u r now onTime q measured lost
  refine ⟨fun hh hr he unanchored => ?pulse, fun f hh hr hf => ?completion⟩
  case pulse =>
    have judged : r.onTime now = true ↔ onTime := r.onTime_iff now
    have late (off : ¬onTime) : r.onTime now = false := Bool.eq_false_iff.mpr (mt judged.mp off)
    have start : exec (.refPulse e) s = .next u.pulsed :=
      (State.exec_refPulse (State.refActs_of hh hr he)).trans
        (congrArg _ (State.takePulse_of_unanchored fun _ => unanchored))
    have ref : u.pulsed.ref = r.pulsed now := State.pulsed_ref
    have held (h : r.state = .valid ∨ r.state = .distrusted) :
        (onTime → u.pulsed.cond = u.cond ∧ u.pulsed.ref = { measured with missCount := 0 }) ∧
        (¬onTime → u.pulsed.cond = u.cond.raise 10 ∧ u.pulsed.ref = lost) := by
      refine ⟨fun on => ?_, fun off => State.pulsed_of_lost h (late off)⟩
      simp only [measured, q, now, ← refOffsetOf_eq]
      exact State.pulsed_of_kept h (judged.mpr on)
    refine ⟨u.pulsed, start, by rw [ref, State.pulsed_eq], ?_⟩
    split
    · next h => exact ⟨State.pulsed_cond_of_unheld (.inl h), ref.trans (RefUnit.pulsed_of_absent h)⟩
    · next h =>
      refine ⟨State.pulsed_cond_of_unheld (.inr h), fun off => ?_, fun on few => ?_, fun on enough => ?_⟩
      · exact ref.trans (RefUnit.pulsed_of_restart h (late off))
      · exact ref.trans (RefUnit.pulsed_of_counting h (judged.mpr on) few)
      · simp only [measured, q, now, ← refOffsetOf_eq]
        exact ref.trans (RefUnit.pulsed_of_qualified h (judged.mpr on) enough)
    · next h => exact held (.inl h)
    · next h => exact held (.inr h)
  case completion =>
    have run : u.running = true := u.running_of hh hr
    refine ⟨u.complete f, State.exec_roundCompletion hh hr hf, ?_⟩
    intro v inside
    obtain ⟨k, last, pending, kept⟩ := State.complete_ref_eq (f := f) run
    obtain ⟨st, outs, ins, moved⟩ := u.judged_ref_eq f
    have state : v.state = (u.judged f).ref.state := by rw [show v = _ from kept]
    have outside : v.outside = (u.judged f).ref.outside := by rw [show v = _ from kept]
    have insides : v.inside = (u.judged f).ref.inside := by rw [show v = _ from kept]
    have split (before : r.state = .valid) (after : v.state = .distrusted) : (u.complete f).flag 3 = true :=
      State.complete_split run before after
    refine ⟨by rw [show v = _ from kept, moved], by rw [show v = _ from kept, moved], by rw [show v = _ from kept, moved],
      by rw [show v = _ from kept, moved], State.complete_hostTimescale run, fun unjudged => ?_, fun z o hz ho => ?_⟩
    · rw [state, outside, insides, State.judged_ref_of_unjudged unjudged]
      exact ⟨rfl, rfl, rfl⟩
    · obtain ⟨unheld, valid, distrusted⟩ := r.judgeRound_spec (insideRange u.config z o) f.refSelected
      rw [← State.judged_ref_of_range hz ho, ← state, ← outside, ← insides] at unheld valid distrusted
      simp only [insideRange_iff] at valid distrusted
      refine ⟨unheld, fun before => ?_, distrusted⟩
      obtain ⟨accepted, counted, eighth⟩ := valid before
      exact ⟨accepted, counted, fun chosen out many =>
        have ⟨after, none_, fresh⟩ := eighth chosen out many
        ⟨after, none_, fresh, split before after⟩⟩

end Sys2Proof.Machine
end

section
/-! SUPPORT. What a STEP leaves of the whole part, as a statement says it: the frame, the channels of the outputs and the trains among
them, the record and the reference (R13, R56, R73, R116, R120, R127, R135, R137). -/

namespace Sys2Proof.Machine

/-! ## Trains (R136, R137) -/

/-- The first pulse to rise after a fraction of the second is the first whose floored place lies beyond it (R136). -/
theorem nextPulseAfter_le_iff {rate : Nat} (positive : 0 < rate) (fraction n : Nat) :
    nextPulseAfter rate fraction ≤ n ↔ fraction < n * 4000000000 / rate := by
  rw [nextPulseAfter, ceilDiv_le_iff (by decide), ← Nat.succ_le_iff, Nat.le_div_iff_mul_le positive]

theorem firstRiseAfter_of_last {rate : Nat} {t : Timestamp} (h : ∀ n, n < rate → n * 4000000000 / rate ≤ t.fraction) :
    firstRiseAfter rate t = none := by
  refine if_neg fun next => ?_
  have rises := (nextPulseAfter_le_iff (Nat.zero_lt_of_lt next) t.fraction _).mp le_rfl
  exact absurd (h _ next) (not_le.mpr rises)

theorem firstRiseAfter_of_first {rate n : Nat} {t : Timestamp} (inside : n < rate)
    (rises : t.fraction < n * 4000000000 / rate) (first : ∀ j, j < n → j * 4000000000 / rate ≤ t.fraction) :
    firstRiseAfter rate t =
      some { reading := t.secondStart.plus (n * 4000000000 / rate : Nat), rising := true, index := n } := by
  have positive := Nat.zero_lt_of_lt inside
  have next : nextPulseAfter rate t.fraction = n := by
    refine le_antisymm ((nextPulseAfter_le_iff positive _ _).mpr rises) (not_lt.mp fun before => ?_)
    exact absurd (first _ before) (not_le.mpr ((nextPulseAfter_le_iff positive _ _).mp le_rfl))
  unfold firstRiseAfter
  rw [next]
  exact if_pos inside

theorem State.trainRuns_iff (s : State) (k : Fin 4) : s.trainRuns k = true ↔
    if s.paired k then (s.pairOf k).phase = .both else s.outs.channels[k].phase = .running := by
  unfold State.trainRuns
  split <;> exact decide_eq_true_iff

theorem Channel.onStep_of_other (ch : Channel) {mode : OutMode} (h : mode ≠ .train) (rate : Nat) (runs : Bool) (c : Int)
    (t : Timestamp) :
    ch.onStep mode rate runs c t = { ch with pulseEnd := ch.pulseEnd.map fun g => g.plus c, tail := none } := by
  cases mode
  case train => exact absurd rfl h
  all_goals rfl

/-! ## The parts of a STEP -/

variable (s : State) (c : Int)

theorem State.takeStep_outs : (s.takeStep c).outs = { s.outs with
    channels := vmapIdx (fun k ch => ch.onStep (s.outSetting k).mode (trainRate (s.outSetting k).rate) (s.trainRuns k) c
      (s.clock.reading.plus c)) s.outs.channels } := rfl

/-- A STEP moves the clock, the ports' histories, the copies held, the record, the reference and the lines, overtakes a close in
flight, and reports STEPPED. -/
theorem State.takeStep_frame : let z := s.clock.reading.plus c
    s.takeStep c = { s with
      clock := { s.clock with reading := z, slew := none, stepCount := s.clock.stepCount + 1#8, named := s.namedFrom z }
      ports := (s.takeStep c).ports, slots := (s.takeStep c).slots, steer := (s.takeStep c).steer, ref := (s.takeStep c).ref
      cond := s.cond.raise 2
      round := { s.round with flight := s.round.flight.map fun f => { f with overtaken := true } }
      outs := { s.outs with channels := (s.takeStep c).outs.channels }
      code := (s.takeStep c).code } := by
  refine State.eq_of_fields ?_ ?_ ?_ ?_ ?_ rfl rfl ?_ ?_ rfl rfl ?_ rfl ?_ ?_ ?_
  case refine_4 => rw [State.takeStep_clock]; rfl
  case refine_7 => rw [State.takeStep_round]; rfl
  case refine_8 => rw [State.takeStep_outs]
  case refine_10 => rw [State.takeStep_cond]; rfl
  all_goals simp

/-- A channel under a STEP (R135, R137). -/
theorem State.takeStep_channel (k : Fin 4) : let z := s.clock.reading.plus c
    let ch := s.outs.channels[k]; let d := (s.takeStep c).outs.channels[k]
    let rate := trainRate s.config.outs[k].rate
    let runs : Prop := if s.paired k then (s.pairOf k).phase = .both else ch.phase = .running
    (s.config.outs[k].mode ≠ .train → d = { ch with pulseEnd := ch.pulseEnd.map fun g => g.plus c, tail := none }) ∧
    (s.config.outs[k].mode = .train → d = { ch with high := false, edge := d.edge } ∧ (¬runs → d.edge = none) ∧
      (runs → (∀ n, n < rate → n * 4000000000 / rate ≤ z.fraction) → d.edge = none) ∧
      (runs → ∀ n, n < rate → z.fraction < n * 4000000000 / rate → (∀ j, j < n → j * 4000000000 / rate ≤ z.fraction) →
        d.edge = some { reading := z.secondStart.plus (n * 4000000000 / rate : Nat), rising := true, index := n })) := by
  intro z ch d rate runs
  have stepped : d = ch.onStep s.config.outs[k].mode rate (s.trainRuns k) c z := by
    simp only [d, State.takeStep_outs, Fin.getElem_fin, vmapIdx_get]
    rfl
  have running : s.trainRuns k = true ↔ runs := s.trainRuns_iff k
  refine ⟨fun other => stepped.trans (ch.onStep_of_other other ..), fun train => ?_⟩
  rw [train] at stepped
  have edge : d.edge = if s.trainRuns k then firstRiseAfter rate z else none := by rw [stepped]; rfl
  refine ⟨by rw [stepped]; rfl, fun still => ?_, fun runs last => ?_, fun runs n inside rises first => ?_⟩
  · rw [edge, if_neg (mt running.mp still)]
  · rw [edge, if_pos (running.mpr runs), firstRiseAfter_of_last last]
  · rw [edge, if_pos (running.mpr runs), firstRiseAfter_of_first inside rises first]

/-- A slot under a STEP (R56). -/
theorem State.takeStep_slot (i : Fin 16) :
    CopiesStepped s.config s.steer.nodeState c (s.clock.reading.plus c) s.slots[i] (s.takeStep c).slots[i] ∧
    (s.takeStep c).slots[i] = { s.slots[i] with
      current := (s.takeStep c).slots[i].current, counters := (s.takeStep c).slots[i].counters } := by
  have stepped : (s.takeStep c).slots[i] = s.slots[i].onStep s.config s.steer.nodeState c (s.clock.reading.plus c) := by
    simp only [State.takeStep_slots, Fin.getElem_fin, vmap_get]
  rw [stepped]
  refine ⟨Slot.onStep_spec .., ?_⟩
  rw [Slot.onStep_eq]

/-- The record under a STEP: the leap jumped over, or the leap guard moved (R125, R127). -/
theorem Steering.onStep_spec (x : Steering) (t : Timestamp) : let y := x.onStep t c
    y = { x with utc := y.utc, leapGuard := y.leapGuard } ∧
    if 0 < c ∧ x.utc.leapJumped t c = true then y.utc = x.utc.leap ∧ y.leapGuard = some ((t.plus c).plus 8000000000)
    else y.utc = x.utc ∧ y.leapGuard = x.leapGuard.map fun g => g.plus c := by
  intro y
  rcases x.onStep_cases t c with ⟨forward, jumped, e⟩ | ⟨free, e⟩
  · rw [if_pos ⟨forward, jumped⟩, show y = _ from e]
    exact ⟨rfl, rfl, rfl⟩
  · rw [if_neg free, show y = _ from e]
    exact ⟨rfl, rfl, rfl⟩

/-- Whole seconds leave the offset of a pulse as it is (R120). -/
theorem wrapOffset_refOffsetOf (t : Timestamp) (n : Int) : wrapOffset (refOffsetOf t - n * 4000000000) = refOffsetOf t := by
  have below : t.fraction < 4000000000 := Nat.mod_lt _ (by decide)
  unfold wrapOffset
  rw [refOffsetOf_eq]
  split <;> omega

end Sys2Proof.Machine
end

section
/-! SUPPORT. REF_PULSE with an anchor time pending: the pulses that apply it, the four rows of R124, and the STEP of the second. -/

namespace Sys2Proof.Machine

/-! ## The pulse that applies an anchor time (R117, R118, R120) -/

/-- The unit after a pulse that leaves it VALID (R117, R118). -/
theorem RefUnit.pulsed_of_valid {r : RefUnit} {t : Timestamp} (h : (r.pulsed t).state = .valid) : r.pulsed t = { r with
    state := .valid, qualCount := if r.state = .qualifying then 0 else r.qualCount
    missCount := if r.state = .valid then 0 else r.missCount, lastPulse := some t, correction := 0
    lastOffset := some (refOffsetOf t), fresh := true } := by
  obtain ⟨on, valid | ⟨qualifying, enough⟩⟩ := RefUnit.pulsed_valid_iff.mp h
  · rw [RefUnit.pulsed_of_kept (.inl valid) on, valid]
    rfl
  · rw [RefUnit.pulsed_of_qualified qualifying on enough, qualifying]
    rfl

/-- Where the epoch is known an anchor time gives the UTC values and the timescale alone (R124). -/
theorem Steering.adopt_of_known {x : Steering} (v : UtcValues) (known : x.epochKnown = true) :
    x.adopt v = { x with utc := v, hostTimescale := true } := by
  rw [Steering.adopt, ← known]

variable {s : State}

/-- A pulse that leaves the unit VALID reports nothing and keeps the record. -/
theorem State.pulsed_of_valid (h : (s.ref.pulsed s.clock.reading).state = .valid) :
    s.pulsed = { s with ref := s.ref.pulsed s.clock.reading } := by
  have on := (RefUnit.pulsed_valid_iff.mp h).1
  have silent : ¬s.ref.pulseLoses s.clock.reading = true := fun loses =>
    absurd (on.symm.trans (RefUnit.pulseLoses_iff.mp loses).2) nofun
  rw [State.pulsed_eq, if_neg silent, if_neg fun left => left.2 h]

/-- The unit once its anchor time is taken off (R124). -/
def RefUnit.anchored (r : RefUnit) (t : Timestamp) : RefUnit := { r.pulsed t with pendingTime := none }

/-- The part at a pulse that takes its anchor time off, before the rows of R124. -/
def State.anchored (s : State) : State := s.setRef (s.ref.anchored s.clock.reading)

section Rows

variable {a : AnchorTime} (h : (s.ref.pulsed s.clock.reading).state = .valid) (pending : s.ref.pendingTime = some a)
include h pending

/-- The rows of R124, by whether the epoch is known and the seconds agree. -/
theorem State.takePulse_of_valid : s.takePulse =
    let own := ownSecond s.clock.reading
    let w := s.anchored.setSteer (s.steer.adopt a.utc)
    if s.steer.epochKnown = true then (if a.seconds.toNat = own then w else s.anchored.report .refConflict)
    else if a.seconds.toNat = own then w else w.takeStep (((a.seconds.toNat : Int) - own) * 4000000000) := by
  have still : s.pulsed.ref.pendingTime = some a := by
    rw [State.pulsed_of_valid h]
    exact RefUnit.pulsed_pendingTime.trans pending
  rw [State.takePulse_eq, if_pos h, State.applyAnchor, still, State.pulsed_of_valid h]
  rfl

theorem State.takePulse_of_same (same : a.seconds.toNat = ownSecond s.clock.reading) :
    s.takePulse = s.anchored.setSteer (s.steer.adopt a.utc) := by
  rw [State.takePulse_of_valid h pending]
  simp only [same, if_true, ite_self]

theorem State.takePulse_of_conflict (known : s.steer.epochKnown = true) (differ : a.seconds.toNat ≠ ownSecond s.clock.reading) :
    s.takePulse = s.anchored.report .refConflict := by
  rw [State.takePulse_of_valid h pending, if_pos known, if_neg differ]

theorem State.takePulse_of_step (new : s.steer.epochKnown = false) (differ : a.seconds.toNat ≠ ownSecond s.clock.reading) :
    s.takePulse = (s.anchored.setSteer (s.steer.adopt a.utc)).takeStep
      (((a.seconds.toNat : Int) - ownSecond s.clock.reading) * 4000000000) := by
  rw [State.takePulse_of_valid h pending, if_neg (by simp [new]), if_neg differ]

end Rows

/-- Whole seconds of STEP move nothing of the unit but its correction total, which begins at the pulse (R116, R120). -/
theorem RefUnit.anchored_onStep {r : RefUnit} {t : Timestamp} (h : (r.pulsed t).state = .valid) (n : Int) :
    (r.anchored t).onStep (n * 4000000000) =
      { r.anchored t with correction := ((r.anchored t).onStep (n * 4000000000)).correction } ∧
    (n * 4000000000 ≤ 9223372036854775807 → -9223372036854775808 ≤ n * 4000000000 →
      ((r.anchored t).onStep (n * 4000000000)).correction = n * 4000000000) := by
  have stepped : (r.anchored t).onStep (n * 4000000000) =
      { r.anchored t with correction := int64 (0 + n * 4000000000) } := by
    rw [RefUnit.anchored, RefUnit.pulsed_of_valid h]
    simp only [RefUnit.onStep, RefUnit.correct, Option.map_some, wrapOffset_refOffsetOf]
    rfl
  rw [stepped]
  exact ⟨rfl, fun high low => (int64_of_mem (by omega) (by omega)).trans (zero_add _)⟩

/-! ## The statement -/

/-- Settles O34: a pulse that does not leave the unit VALID moves it alone; at one that does, each row of R124, the second by the
parts of its STEP. -/
theorem anchorTimeApplied : Obligations.AnchorTimeApplied := by
  intro e s a u r now onTime applies q offset own jump stepped kept measured hh hr he pending
  have judged : r.onTime now = true ↔ onTime := r.onTime_iff now
  have late (off : ¬onTime) : r.onTime now = false := Bool.eq_false_iff.mpr (mt judged.mp off)
  have valid : (r.pulsed now).state = .valid ↔ applies := RefUnit.pulsed_valid_iff.trans (and_congr_left' judged)
  have hoffset : offset = refOffsetOf now := (refOffsetOf_eq now).symm
  have hown : own = ownSecond now := by simp only [own, hoffset]; rfl
  refine ⟨u.takePulse, State.exec_refPulse (State.refActs_of hh hr he), fun passes => ?moved, fun app => ?applied⟩
  case moved =>
    have left : (r.pulsed now).state ≠ .valid := mt valid.mp passes
    have alone : u.takePulse = u.pulsed := State.takePulse_of_unanchored fun h => absurd h left
    have ref : u.pulsed.ref = r.pulsed now := State.pulsed_ref
    have held (h : r.state = .valid ∨ r.state = .distrusted) :
        (onTime → u.pulsed.cond = u.cond ∧ u.pulsed.ref = { measured with missCount := 0 }) ∧
        (¬onTime → u.pulsed.cond = u.cond.raise 10 ∧ u.pulsed.ref = { kept with
          state := .qualifying, qualCount := 0, missCount := 0, outside := 0, inside := 0, lastOffset := none
          fresh := false }) := by
      refine ⟨fun on => ?_, fun off => State.pulsed_of_lost h (late off)⟩
      simp only [measured, hoffset]
      exact State.pulsed_of_kept h (judged.mpr on)
    rw [alone]
    refine ⟨?_, ?_⟩
    · rw [ref, State.pulsed_eq]
      simp only [ne_eq, left, not_false_eq_true, and_true, r, now]
    · split
      · next h => exact ⟨State.pulsed_cond_of_unheld (.inl h), ref.trans (RefUnit.pulsed_of_absent h)⟩
      · next h =>
        refine ⟨State.pulsed_cond_of_unheld (.inr h), fun off => ?_, fun on => ?_⟩
        · exact ref.trans (RefUnit.pulsed_of_restart h (late off))
        · have few : r.qualCount < 3 := not_le.mp fun enough => passes ⟨on, .inr ⟨h, enough⟩⟩
          exact ref.trans (RefUnit.pulsed_of_counting h (judged.mpr on) few)
      · next h => exact held (.inl h)
      · next h => exact held (.inr h)
  case applied =>
    have left : (r.pulsed now).state = .valid := valid.mpr app
    have anchored : r.anchored now = { measured with
        state := .valid, qualCount := if r.state = .qualifying then 0 else r.qualCount
        missCount := if r.state = .valid then 0 else r.missCount, pendingTime := none } := by
      rw [RefUnit.anchored, RefUnit.pulsed_of_valid left, ← hoffset]
    let w := u.anchored.setSteer (u.steer.adopt a.utc)
    have same (h : a.seconds.toNat = own) : u.takePulse = w := State.takePulse_of_same left pending (h.trans hown)
    have conflict (known : u.steer.epochKnown = true) (differ : a.seconds.toNat ≠ own) :
        u.takePulse = u.anchored.report .refConflict := State.takePulse_of_conflict left pending known (hown ▸ differ)
    have step (st : stepped) : u.takePulse = w.takeStep jump := by
      obtain ⟨-, new, differ⟩ := st
      simp only [jump, hown]
      exact State.takePulse_of_step left pending new (hown ▸ differ)
    have rows : (u.takePulse = w ∨ u.takePulse = u.anchored.report .refConflict) ∨ stepped := by
      by_cases agree : a.seconds.toNat = own
      · exact .inl (.inl (same agree))
      · cases known : u.steer.epochKnown
        · exact .inr ⟨app, known, agree⟩
        · exact .inl (.inr (conflict known agree))
    obtain ⟨moved, total⟩ := RefUnit.anchored_onStep left ((a.seconds.toNat : Int) - own)
    have ref (st : stepped) : u.takePulse.ref = (r.anchored now).onStep jump := by rw [step st, State.takeStep_ref]; rfl
    refine ⟨?ref, fun still => ?still, fun known agree => ?agree, fun known differ => ?conflict, fun _ agree => ?adopt,
      fun st => ?step⟩
    case ref =>
      rcases rows with (h | h) | st
      · rw [h]; exact anchored
      · rw [h]; exact anchored
      · rw [ref st]
        exact moved.trans (by rw [anchored])
    case still =>
      have row := rows.resolve_right still
      have correction : (r.anchored now).correction = 0 := by rw [anchored]
      rcases row with h | h <;> rw [h] <;> exact ⟨rfl, correction⟩
    case agree =>
      rw [same agree]
      exact ⟨rfl, Steering.adopt_of_known a.utc known⟩
    case conflict => rw [conflict known differ]; exact ⟨rfl, rfl⟩
    case adopt => rw [same agree]; exact ⟨rfl, rfl⟩
    case step =>
      intro z
      have steer : u.takePulse.steer = (u.steer.adopt a.utc).onStep now jump := by rw [step st, State.takeStep_steer]; rfl
      obtain ⟨record, leaps⟩ := Steering.onStep_spec jump (u.steer.adopt a.utc) now
      rw [← steer] at record leaps
      refine ⟨?frame, fun high low => ?total, record, leaps, fun p => ?history, fun i => ?slot, fun k => ?channel⟩
      case frame =>
        rw [step st]
        conv_lhs => rw [w.takeStep_frame jump, w.takeStep_code jump]
        rfl
      case total =>
        rw [ref st]
        exact total high low
      case history =>
        rw [step st, State.takeStep_ports, Pair.get_map]
        rfl
      case slot =>
        rw [step st]
        exact w.takeStep_slot jump i
      case channel =>
        rw [step st]
        exact w.takeStep_channel jump k

end Sys2Proof.Machine
end

section
/-! SUPPORT. The part held by its reset pin (R131, R161, R166), the lamp latch at a monitor top (R144), and the edges of a train
(R134, R136). -/

namespace Sys2Proof.Machine

variable {s : State} {e : Elapsed}

/-! ## A held part (R131, R161, R166) -/

theorem State.outLevel_of_held (h : s.held = true) (k : Fin 4) : s.outLevel k = false := by
  rw [State.outLevel, h]
  rfl

theorem State.alert_of_held (h : s.held = true) : s.alert = false := by
  rw [State.alert, h]
  rfl

theorem State.exec_resetPinAssert (e : Elapsed) (free : s.pins.resetAsserted = false) : exec (.resetPinAssert e) s = .next
    (((s.elapse e).setResetPin true).resetTo s.monitor.cause 0#4 s.clock.rate s.port.record) := by
  have free' : (s.elapse e).held = false := by rw [s.elapse_held e]; exact free
  simp [exec, execResetPinAssert, State.assertPin, free']

theorem State.exec_resetPinAssert_of_held (e : Elapsed) (held : s.pins.resetAsserted = true) :
    exec (.resetPinAssert e) s = .next s := by
  simp [exec, execResetPinAssert, State.assertPin, s.elapse_of_held e held, show s.held = true from held]

/-- Settles O7: the assertion is a reset with the pin held, and the held pin makes every line low. -/
theorem pinAssertHolds : Obligations.PinAssertHolds := by
  intro e s
  refine ⟨fun free => ⟨_, State.exec_resetPinAssert e free, ?pins, fun k => ?low, ?alert, rfl,
    State.resetTo_afterReset _ _ _ _ _⟩, State.exec_resetPinAssert_of_held e⟩
  case pins => simp [State.resetTo, State.setResetPin]
  case low => exact State.outLevel_of_held rfl k
  case alert => exact State.alert_of_held rfl

/-! ## The monitor top (R144) -/

theorem NodeState.monitorTimed_iff (st : NodeState) : st.monitorTimed = true ↔ st.clocked = false ∨ st = .fault := by
  cases st <;> decide

theorem NodeState.monitorTimed_of_running {st : NodeState} (run : st.running = true) : st.monitorTimed = false := by
  cases st <;> trivial

theorem State.exec_monitorTop (free : (s.elapse e).pins.resetAsserted = false) (due : (s.elapse e).monitor.topDue = true) :
    exec (.monitorTop e) s = .next (s.elapse e).takeMonitorTop := by
  have free' : (s.elapse e).held = false := free
  simp only [exec, execMonitorTop, free', due, Bool.not_false, Bool.and_self, if_true]

theorem State.takeMonitorTop_of_timed (timed : s.steer.nodeState.monitorTimed = true) :
    s.takeMonitorTop = (s.setMonitor { s.monitor with topDue := false }).latchLamps := if_pos timed

theorem State.takeMonitorTop_of_untimed (untimed : s.steer.nodeState.monitorTimed = false) :
    s.takeMonitorTop = s.setMonitor { s.monitor with topDue := false } :=
  if_neg (Bool.eq_false_iff.mp untimed)

theorem State.takeMonitorTop_frame (s : State) :
    s.takeMonitorTop = { s with outs := s.takeMonitorTop.outs, monitor := { s.monitor with topDue := false } } := by
  cases timed : s.steer.nodeState.monitorTimed
  · rw [State.takeMonitorTop_of_untimed timed]
    rfl
  · rw [State.takeMonitorTop_of_timed timed]
    rfl

/-- The latch takes the set of the node state, and no lamp stays dark. -/
theorem State.latchLamps_outs (s : State) : s.latchLamps.outs.lampLatch = s.config.envelopes s.steer.nodeState ∧
    ∀ k : Fin 4, s.latchLamps.outs.channels[k].dark = false :=
  ⟨rfl, fun k => congrArg Channel.dark (vmap_get _ _ k.val k.isLt)⟩

/-- Settles O14: the node state says whether the monitor second times the lamps. -/
theorem monitorTopLatches : Obligations.MonitorTopLatches := by
  intro e s u free due
  refine ⟨u.takeMonitorTop, State.exec_monitorTop free due, u.takeMonitorTop_frame, fun timed => ?latched, fun run => ?left⟩
  case latched =>
    rw [State.takeMonitorTop_of_timed ((NodeState.monitorTimed_iff _).mpr timed)]
    exact State.latchLamps_outs _
  case left =>
    rw [State.takeMonitorTop_of_untimed (NodeState.monitorTimed_of_running run)]
    rfl

/-! ## Train edges (R134, R136) -/

theorem State.exec_trainEdge {k : Fin 4} {x : TrainEdge} (named : (s.elapse e).outs.channels[k].edge = some x)
    (run : (s.elapse e).running = true) (reached : (s.elapse e).clock.reading.reached x.reading = true) :
    exec (.trainEdge e k) s = .next ((s.elapse e).modifyChannel k
      (·.takeEdge (trainRate (s.elapse e).config.outs[k].rate) ((s.elapse e).trainGoesOn k))) := by
  simp only [exec, execTrainEdge, Channel.edgeReading, named, Option.map_some, run, reached, Bool.and_self, if_true]
  rfl

theorem State.trainGoesOn_iff (s : State) (k : Fin 4) : s.trainGoesOn k = true ↔
    (if s.paired k then (s.pairOf k).phase = .both else s.outs.channels[k].phase = .running) ∧ s.active k = true := by
  rw [State.trainGoesOn, Bool.and_eq_true, State.trainRuns_iff]

variable {c : Channel} {x : TrainEdge} {rate : Nat} {goesOn : Bool}

/-- The fall of a pulse names the rise of the next, while one is left and the train goes on. -/
theorem Channel.takeEdge_of_fall (named : c.edge = some x) (falls : x.rising = false) :
    c.takeEdge rate goesOn = { c with
      high := false
      edge := if goesOn = true ∧ x.index + 1 < rate then some
        { reading := x.reading.secondStart.plus ((x.index + 1) * 4000000000 / rate : Nat), rising := true, index := x.index + 1 }
        else none } := by
  simp only [Channel.takeEdge, named, falls, trainRise, Bool.and_eq_true, decide_eq_true_eq]
  rfl

/-- The rise of a pulse names its fall; a train that no longer goes on does not rise. -/
theorem Channel.takeEdge_of_rise (named : c.edge = some x) (rises : x.rising = true) :
    c.takeEdge rate goesOn = if goesOn then { c with
      high := true
      edge := some { reading := x.reading.secondStart.plus ((2 * x.index + 1) * 2000000000 / rate : Nat)
                     rising := false, index := x.index } }
      else { c with edge := none } := by
  simp only [Channel.takeEdge, named, rises, if_true]
  rfl

/-- Settles O40: the fall and the rise, each by whether the train goes on. -/
theorem trainEdgeTaken : Obligations.TrainEdgeTaken := by
  intro e k s x u c rate top goes free running named reached
  have goesOn : u.trainGoesOn k = true ↔ goes := u.trainGoesOn_iff k
  refine ⟨c.takeEdge rate (u.trainGoesOn k), State.exec_trainEdge named (u.running_of free running) reached, fun falls => ?fall,
    fun rises => ?rise⟩
  case fall =>
    rw [Channel.takeEdge_of_fall named falls]
    exact ⟨rfl, fun on left => if_pos ⟨goesOn.mpr on, left⟩, fun last => if_neg (mt (And.imp_left goesOn.mp) last)⟩
  case rise =>
    rw [Channel.takeEdge_of_rise named rises]
    exact ⟨fun on => if_pos (goesOn.mpr on), fun off => if_neg (mt goesOn.mp off)⟩

end Sys2Proof.Machine
end

section
/-! SUPPORT. The Output Unit at a top of second: unpaired channels, pairs, and what TOP_OF_SECOND leaves of both (R132, R133, R135,
R136, R138 to R141, R151). -/

namespace Sys2Proof.Machine

/-! ## The active condition (R132) -/

theorem State.activeAlone_iff (s : State) (k : Fin 4) : s.activeAlone k = true ↔
    s.steer.nodeState.settled = true ∧ s.steer.accuracyClass ≤ s.config.outs[k].floor := by
  rw [State.activeAlone, Bool.and_eq_true, decide_eq_true_eq]
  rfl

theorem State.activePair_iff (s : State) (k : Fin 4) :
    let active (j : Fin 4) : Prop := s.steer.nodeState.settled = true ∧ s.steer.accuracyClass ≤ s.config.outs[j].floor
    s.activePair k = true ↔ if k.val < 2 then active 0 ∧ active 1 else active 2 ∧ active 3 := by
  intro active
  unfold State.activePair
  split <;> simp only [Bool.and_eq_true, State.activeAlone_iff, active]

/-! ## Unpaired channels (R133, R135, R136, R151) -/

section Alone

variable {c : Channel} {set : OutSetting} {active : Bool} {top : Timestamp}

/-- What a PULSE or TRAIN output begins at a top of second (R135, R136). -/
def Channel.beginAt (c : Channel) (set : OutSetting) (top : Timestamp) : Channel :=
  if set.mode = .pulse then c.risePulse top set.width else c.riseTrain top (trainRate set.rate)

theorem Channel.beginAt_running (c : Channel) (set : OutSetting) (top : Timestamp) :
    ({ c with phase := .running }).beginAt set top = { c.beginAt set top with phase := .running } := by
  unfold Channel.beginAt Channel.risePulse
  split
  · split <;> rfl
  · rfl

/-- A PULSE or TRAIN output moves its gate phase, and begins while active once RUNNING. -/
theorem Channel.atTop_of_gated (gated : set.mode = .pulse ∨ set.mode = .train) : c.atTop set active top =
    if active = true ∧ c.phase.atTop = .running then ({ c with phase := c.phase.atTop }).beginAt set top
    else { c with phase := c.phase.atTop } := by
  unfold Channel.atTop Channel.beginAt
  rcases gated with mode | mode <;> rw [mode] <;> rfl

theorem Channel.atTop_of_muted (gated : set.mode = .pulse ∨ set.mode = .train) (muted : c.phase = .muted) :
    c.atTop set active top = c := by
  rw [Channel.atTop_of_gated gated, muted, if_neg (by simp [GatePhase.atTop]), GatePhase.atTop, ← muted]

theorem GatePhase.atTop_of_unmuted {ph : GatePhase} (unmuted : ph ≠ .muted) : ph.atTop = .running := by
  cases ph <;> trivial

theorem Channel.atTop_of_active (gated : set.mode = .pulse ∨ set.mode = .train) (unmuted : c.phase ≠ .muted) :
    c.atTop set true top = { c.beginAt set top with phase := .running } := by
  rw [Channel.atTop_of_gated gated, GatePhase.atTop_of_unmuted unmuted, if_pos ⟨rfl, rfl⟩, Channel.beginAt_running]

theorem Channel.atTop_of_inactive (gated : set.mode = .pulse ∨ set.mode = .train) (unmuted : c.phase ≠ .muted) :
    c.atTop set false top = { c with phase := .running } := by
  rw [Channel.atTop_of_gated gated, GatePhase.atTop_of_unmuted unmuted, if_neg nofun]

theorem Channel.atTop_of_code (code : set.mode = .code) : c.atTop set active top =
    if active = true ∧ c.phase ≠ .muted then { c with phase := .running, tail := none } else c := by
  unfold Channel.atTop
  rw [code]

end Alone

/-! ## Pairs (R138 to R141) -/

section Paired

variable {p : PairState} {high : Bool} {top : Timestamp}

theorem PairState.atTop_of_still (still : p.phase = .idle ∨ p.phase = .both) : p.atTop high top = p := by
  unfold PairState.atTop
  rcases still with h | h <;> rw [h]

theorem PairState.atTop_of_armed (armed : p.phase = .armed) : (p.atTop high top).phase = .lead := by
  unfold PairState.atTop
  rw [armed]

theorem PairState.atTop_of_lead (lead : p.phase = .lead) : (p.atTop high top).phase = .both := by
  unfold PairState.atTop
  rw [lead]

/-- The closing top is the one at which the closing marker rises (R140, log entry 17). -/
theorem PairState.atTop_of_closes (closing : p.phase = .closing) (toCome : p.closingTop = none) :
    p.atTop high top = if high then p else { p with closingTop := some top } := by
  unfold PairState.atTop
  rw [closing, toCome]

theorem PairState.atTop_of_closed {t : Timestamp} (closing : p.phase = .closing) (closed : p.closingTop = some t) :
    p.atTop high top =
      if t = top then p else { phase := if p.resume then .lead else .idle, resume := false, closingTop := none } := by
  unfold PairState.atTop
  rw [closing, closed]
  cases p.resume <;> rfl

theorem PairState.closesAt_iff (p : PairState) : p.closesAt = true ↔ p.phase = .closing ∧ p.closingTop = none := by
  rw [PairState.closesAt, Bool.and_eq_true, decide_eq_true_eq, Option.isNone_iff_eq_none]

theorem PairPhase.marks_iff (ph : PairPhase) : ph.marks = true ↔ ph = .lead ∨ ph = .both := by
  cases ph <;> decide

variable {c : Channel} {set : OutSetting} {active : Bool} {p' : PairState}

theorem Channel.pairedAtTop_train : c.pairedAtTop set true active p p' top =
    if p'.phase = .both ∧ active = true then c.riseTrain top (trainRate set.rate) else c := by
  simp [Channel.pairedAtTop, and_comm]

theorem Channel.pairedAtTop_marker : c.pairedAtTop set false active p p' top =
    if (p.phase = .closing ∧ p.closingTop = none) ∨ (active = true ∧ (p'.phase = .lead ∨ p'.phase = .both))
    then c.risePulse top set.width else c := by
  simp only [Channel.pairedAtTop, Bool.false_eq_true, if_false, Bool.or_eq_true, Bool.and_eq_true, PairState.closesAt_iff,
    PairPhase.marks_iff]

end Paired

/-! ## What TOP_OF_SECOND leaves of the outputs -/

variable {s : State} {top : Timestamp}

/-- The leap at the top moves nothing that the outputs read. -/
theorem State.takeTop_channel (run : s.steer.nodeState.running = true) (k : Fin 4) :
    (s.takeTop top).outs.channels[k] = s.channelAtTop top k s.outs.channels[k] := by
  obtain ⟨u, g, leap⟩ := s.steer.leapAt_cases top
  rw [State.takeTop_of_running run, leap]
  exact vmapIdx_get _ _ k.val k.isLt

theorem State.markerHigh_first (s : State) {k : Fin 4} (first : k.val < 2) : s.markerHigh k = s.markerHigh 0 := if_pos first

theorem State.markerHigh_second (s : State) {k : Fin 4} (second : ¬k.val < 2) : s.markerHigh k = s.markerHigh 2 :=
  if_neg second

theorem State.markerHigh_iff (s : State) (k : Fin 4) : s.markerHigh k = true ↔
    if k.val < 2 then s.outs.channels[1].high = true else s.outs.channels[3].high = true := by
  unfold State.markerHigh
  split <;> rfl

theorem State.takeTop_pairOf (run : s.steer.nodeState.running = true) (k : Fin 4) : (s.takeTop top).pairOf k =
    if s.paired k then (s.pairOf k).atTop (s.markerHigh k) top else s.pairOf k := by
  rw [State.takeTop_of_running run]
  by_cases first : k.val < 2
  · simp only [State.pairOf, State.paired, first, if_true, s.markerHigh_first first]
    rfl
  · simp only [State.pairOf, State.paired, first, if_false, s.markerHigh_second first]
    rfl

theorem State.channelAtTop_of_alone {k : Fin 4} {c : Channel} (alone : s.paired k = false) :
    s.channelAtTop top k c = c.atTop s.config.outs[k] (s.activeAlone k) top := if_neg (Bool.eq_false_iff.mp alone)

theorem State.channelAtTop_of_paired {k : Fin 4} {c : Channel} (paired : s.paired k = true) : s.channelAtTop top k c =
    c.pairedAtTop s.config.outs[k] (decide (k = 0 ∨ k = 2)) (s.activePair k) (s.pairOf k)
      ((s.pairOf k).atTop (s.markerHigh k) top) top := if_pos paired

end Sys2Proof.Machine
end

section
/-! SUPPORT. The Output Unit at a completion: the evaluation of every channel and pair, and what the order of the decision makes of
it (R132 to R135, R137, R139 to R141, R153). -/

namespace Sys2Proof.Machine

/-! ## Unpaired channels (Table 7-5) -/

section Alone

variable {c : Channel} {mode : OutMode} {tail : Option Timestamp}

theorem Channel.evaluate_of_ungated {active : Bool} (ungated : ¬(mode = .pulse ∨ mode = .train ∨ mode = .code)) :
    c.evaluate mode active tail = c := by
  cases mode
  case off | lamp => rfl
  case pulse | train | code => simp at ungated

theorem Channel.evaluate_of_active (gated : mode = .pulse ∨ mode = .train ∨ mode = .code) : c.evaluate mode true tail =
    { c with phase := if c.phase = .muted then .armed else c.phase } := by
  unfold Channel.evaluate
  rcases gated with rfl | rfl | rfl <;> simp only [if_true] <;> split <;> rfl

theorem Channel.evaluate_of_idle (gated : mode = .pulse ∨ mode = .train ∨ mode = .code) (idle : c.phase ≠ .running) :
    c.evaluate mode false tail = { c with phase := .muted } := by
  unfold Channel.evaluate
  rcases gated with rfl | rfl | rfl <;> exact if_neg idle

/-- A mute stops a train once its high is over, and lets the symbol in progress complete (R134, R153). -/
theorem Channel.evaluate_of_mute (gated : mode = .pulse ∨ mode = .train ∨ mode = .code) (runs : c.phase = .running) :
    c.evaluate mode false tail = { c with
      phase := .muted
      edge := if mode = .train then c.muteTrain.edge else c.edge
      tail := if mode = .code then tail else c.tail } := by
  unfold Channel.evaluate
  rcases gated with rfl | rfl | rfl <;> exact if_pos runs

end Alone

/-! ## One channel, alone or paired -/

/-- What a completion's evaluation makes of the channel `c` of an output in a mode: `gated` says that it is unpaired with a gate
phase, `mutes` that it is muted, `tail` where its symbol in progress ends. -/
structure Channel.Evaluated (c d : Channel) (mode : OutMode) (gated active mutes : Prop) (tail : Option Timestamp) : Prop where
  frame : d = { c with phase := d.phase, edge := d.edge, tail := d.tail }
  armed : gated → active → d.phase = if c.phase = .muted then .armed else c.phase
  muted : gated → ¬active → d.phase = .muted
  ungated : ¬gated → d.phase = c.phase
  train : mutes → mode = .train → d.edge = if c.high then c.edge else none
  unmuted : ¬mutes → d.edge = c.edge
  code : gated → mutes → mode = .code → d.tail = tail
  other : ¬(mutes ∧ mode = .code) → d.tail = c.tail

section Evaluated

variable {c : Channel} {mode : OutMode} {gated active mutes : Prop} {tail : Option Timestamp}

theorem Channel.evaluated_self (ungated : ¬gated) (still : ¬mutes) : c.Evaluated c mode gated active mutes tail :=
  ⟨rfl, fun g => absurd g ungated, fun g => absurd g ungated, fun _ => rfl, fun m => absurd m still, fun _ => rfl,
    fun g => absurd g ungated, fun _ => rfl⟩

theorem Channel.muteTrain_evaluated (ungated : ¬gated) (mute : mutes) :
    c.Evaluated c.muteTrain mode gated active mutes tail :=
  ⟨rfl, fun g => absurd g ungated, fun g => absurd g ungated, fun _ => rfl, fun _ _ => rfl, fun m => absurd mute m,
    fun g => absurd g ungated, fun _ => rfl⟩

theorem Channel.evaluate_evaluated {b : Bool} (isGated : gated ↔ mode = .pulse ∨ mode = .train ∨ mode = .code)
    (isActive : b = true ↔ active) (isMute : mutes ↔ gated ∧ ¬active ∧ c.phase = .running) :
    c.Evaluated (c.evaluate mode b tail) mode gated active mutes tail := by
  by_cases g : gated
  case neg =>
    rw [Channel.evaluate_of_ungated (mt isGated.mpr g)]
    exact Channel.evaluated_self g fun m => g (isMute.mp m).1
  have modes := isGated.mp g
  cases b
  case true =>
    have a := isActive.mp rfl
    have still : ¬mutes := fun m => (isMute.mp m).2.1 a
    rw [Channel.evaluate_of_active modes]
    exact ⟨rfl, fun _ _ => rfl, fun _ n => absurd a n, fun n => absurd g n, fun m => absurd m still, fun _ => rfl,
      fun _ m => absurd m still, fun _ => rfl⟩
  case false =>
    have a : ¬active := fun a => Bool.false_ne_true (isActive.mpr a)
    by_cases runs : c.phase = .running
    · have mute := isMute.mpr ⟨g, a, runs⟩
      rw [Channel.evaluate_of_mute modes runs]
      exact ⟨rfl, fun _ h => absurd h a, fun _ _ => rfl, fun n => absurd g n, fun _ h => if_pos h, fun n => absurd mute n,
        fun _ _ h => if_pos h, fun h => if_neg fun code => h ⟨mute, code⟩⟩
    · have still : ¬mutes := fun m => runs (isMute.mp m).2.2
      rw [Channel.evaluate_of_idle modes runs]
      exact ⟨rfl, fun _ h => absurd h a, fun _ _ => rfl, fun n => absurd g n, fun m => absurd m still, fun _ => rfl,
        fun _ m => absurd m still, fun _ => rfl⟩

end Evaluated

variable (s : State)

/-- A channel evaluated alone or with its pair. -/
theorem State.evaluateChannel_evaluated (k : Fin 4) (c : Channel) :
    let o := s.config.outs[k]
    let active (j : Fin 4) : Prop := s.steer.nodeState.settled = true ∧ s.steer.accuracyClass ≤ s.config.outs[j].floor
    let both : Prop := if k.val < 2 then active 0 ∧ active 1 else active 2 ∧ active 3
    let gated : Prop := s.paired k = false ∧ (o.mode = .pulse ∨ o.mode = .train ∨ o.mode = .code)
    let mutes : Prop := (gated ∧ ¬active k ∧ c.phase = .running) ∨ (s.paired k = true ∧ (k = 0 ∨ k = 2) ∧ ¬both)
    c.Evaluated (s.evaluateChannel k c) o.mode gated (active k) mutes s.symbolTail := by
  intro o active both gated mutes
  unfold State.evaluateChannel
  cases paired : s.paired k
  · have isGated : gated ↔ o.mode = .pulse ∨ o.mode = .train ∨ o.mode = .code := and_iff_right paired
    have isMute : mutes ↔ gated ∧ ¬active k ∧ c.phase = .running :=
      or_iff_left fun ⟨h, _⟩ => Bool.false_ne_true (paired.symm.trans h)
    exact Channel.evaluate_evaluated isGated (s.activeAlone_iff k) isMute
  · have ungated : ¬gated := fun ⟨h, _⟩ => Bool.false_ne_true (h.symm.trans paired)
    have isMute : mutes ↔ (k = 0 ∨ k = 2) ∧ ¬s.activePair k = true := by
      have pair : s.activePair k = true ↔ both := s.activePair_iff k
      rw [pair]
      exact (or_iff_right fun ⟨g, _⟩ => ungated g).trans (and_iff_right paired)
    simp only [if_true]
    split
    · next mute => exact Channel.muteTrain_evaluated ungated (isMute.mpr mute)
    · next still => exact Channel.evaluated_self ungated (mt isMute.mp still)

/-- The symbol in progress falls at the end of its high, in the second that its frame describes (R153). -/
theorem State.symbolTail_of_frame {f : CodeFrame} (current : s.code.current = some f) : s.symbolTail =
    let now := s.clock.reading
    let width := f.highTimeAt now.fraction
    if f.second = BitVec.ofNat 40 now.seconds ∧ now.fraction % 80000000 < width
    then some (now.secondStart.plus (now.fraction / 80000000 * 80000000 + width : Nat)) else none := by
  simp only [State.symbolTail, current, CodeFrame.highAt_iff]

theorem State.symbolTail_of_none (silent : s.code.current = none) : s.symbolTail = none := by
  simp only [State.symbolTail, silent]

/-! ## Pairs (Table 7-6) -/

theorem PairState.evaluate_of_active (p : PairState) : p.evaluate true = match p.phase with
    | .idle => { p with phase := .armed }
    | .armed | .lead | .both => p
    | .closing => { p with resume := true } := by
  unfold PairState.evaluate
  cases p.phase <;> rfl

theorem PairState.evaluate_of_inactive (p : PairState) : p.evaluate false = match p.phase with
    | .idle => p
    | .armed => { p with phase := .idle }
    | .lead | .both => { phase := .closing, resume := false, closingTop := none }
    | .closing => { p with resume := false } := by
  unfold PairState.evaluate
  cases p.phase <;> rfl

theorem PairState.evaluate_false_phase (p : PairState) : (p.evaluate false).phase ≠ .both := by
  unfold PairState.evaluate
  cases h : p.phase <;> simp [h]

/-! ## The evaluation of the whole unit (R132) -/

variable (y : Steering)

theorem State.recorded_channel (k : Fin 4) :
    (s.recorded y).outs.channels[k] = (s.setSteer y).evaluateChannel k s.outs.channels[k] := vmapIdx_get _ _ k.val k.isLt

theorem State.recorded_pairOf (k : Fin 4) : (s.recorded y).pairOf k =
    if s.paired k then (s.pairOf k).evaluate ((s.setSteer y).activePair k) else s.pairOf k := by
  by_cases first : k.val < 2
  · have pair : (s.setSteer y).activePair k = (s.setSteer y).activePair 0 := by simp [State.activePair, first]
    rw [pair]
    simp only [State.pairOf, State.paired, first, if_true]
    rfl
  · have pair : (s.setSteer y).activePair k = (s.setSteer y).activePair 2 := by simp [State.activePair, first]
    rw [pair]
    simp only [State.pairOf, State.paired, first, if_false]
    rfl

variable {s y}

/-- Outside the settled states no pair is in BOTH once evaluated. -/
theorem State.recorded_pairOf_of_unsettled (unsettled : y.nodeState.settled = false) {k : Fin 4} (paired : s.paired k = true) :
    ((s.recorded y).pairOf k).phase ≠ .both := by
  have inactive : (s.setSteer y).activePair k = false := by
    simp [State.activePair, State.activeAlone, unsettled]
  rw [State.recorded_pairOf, if_pos paired, inactive]
  exact PairState.evaluate_false_phase _

/-- Outside the settled states no train runs once evaluated. -/
theorem State.recorded_trainRuns (unsettled : y.nodeState.settled = false) {k : Fin 4} (train : s.config.outs[k].mode = .train) :
    ¬if s.paired k then ((s.recorded y).pairOf k).phase = .both else (s.recorded y).outs.channels[k].phase = .running := by
  cases paired : s.paired k
  · have muted := ((s.setSteer y).evaluateChannel_evaluated k s.outs.channels[k]).muted ⟨paired, .inr (.inl train)⟩
      fun ⟨settled, _⟩ => Bool.false_ne_true (unsettled.symm.trans settled)
    rw [s.recorded_channel y k, muted]
    simp
  · exact State.recorded_pairOf_of_unsettled unsettled paired

/-! ## The order of the decision (R9, R135, R137) -/

variable (s) (f : Flight)

/-- The summary published carries the action of the decision. -/
theorem State.summaryOf_action : (s.summaryOf f).action = (s.decided f).order.action := rfl

/-- The evaluation sees the record that the completion leaves. -/
theorem State.evaluated_outs (run : s.running = true) :
    ((s.judged f).recorded (s.decided f).steer).outs = (s.recorded (s.complete f).steer).outs := by
  obtain ⟨_, _, _, judged, -, -⟩ := s.judged_moved f
  obtain ⟨_, _, _, steer⟩ := s.issued_steer f run
  rw [s.complete_steer f, steer, judged]
  rfl

theorem State.evaluated_takeStep_outs (run : s.running = true) (a : Int) :
    ((((s.judged f).recorded (s.decided f).steer).setClock { s.clock with slew := none }).takeStep a).outs =
      ((s.recorded (s.complete f).steer).takeStep a).outs := by
  obtain ⟨_, _, _, judged, -, -⟩ := s.judged_moved f
  obtain ⟨_, _, _, steer⟩ := s.issued_steer f run
  rw [s.complete_steer f, steer, judged, State.takeStep_outs, State.takeStep_outs]
  rfl

/-- The outputs after a completion: evaluated by the state and class that it leaves, then stepped if it steps, which it does only
into ACQUIRE. -/
theorem State.complete_outs (run : s.running = true) : let w := s.recorded (s.complete f).steer
    ((∀ a, (s.summaryOf f).action ≠ .step a) → (s.complete f).outs = w.outs) ∧
    ∀ a, (s.summaryOf f).action = .step a →
      (s.complete f).steer.nodeState = .acquire ∧ (s.complete f).outs = (w.takeStep a).outs := by
  intro w
  have evaluated := s.evaluated_outs f run
  have outs : (s.complete f).outs = (s.issued f).outs := by
    obtain ⟨k, fields, -⟩ := s.complete_fields f
    rw [fields]
  rw [outs, s.summaryOf_action f]
  rcases s.issued_spec f run with ⟨decided, issued⟩ | ⟨a, decided, acquire, issued⟩ | ⟨g, decided, issued⟩ <;> rw [decided]
  · exact ⟨fun _ => by rw [issued, evaluated], nofun⟩
  · refine ⟨fun still => absurd rfl (still a), fun b step => ?_⟩
    obtain rfl : a = b := Action.step.inj step
    obtain ⟨_, _, _, steer⟩ := s.issued_steer f run
    refine ⟨?_, by rw [issued, s.evaluated_takeStep_outs f run a]⟩
    rw [s.complete_steer f, steer]
    exact acquire
  · refine ⟨fun _ => ?_, nofun⟩
    obtain ⟨_, _, _, slewed⟩ := ((s.judged f).recorded (s.decided f).steer).slewed_eq
      (rateStepOf s.config g ((f.result s.config s.ownId s.round.quiet).correction.getD 0))
      (clampTo s.config.slewLimit ((f.result s.config s.ownId s.round.quiet).correction.getD 0))
    rw [issued, slewed, ← evaluated]
    simp

/-- The latch, the timing of the lamps, and each pair as evaluated. -/
theorem State.complete_pairOf (run : s.running = true) (k : Fin 4) :
    (s.complete f).outs.lampLatch = s.outs.lampLatch ∧ (s.complete f).outs.clockTiming = s.outs.clockTiming ∧
    (s.complete f).pairOf k =
      if s.paired k then (s.pairOf k).evaluate ((s.setSteer (s.complete f).steer).activePair k) else s.pairOf k := by
  obtain ⟨kept, stepped⟩ := s.complete_outs f run
  rw [← s.recorded_pairOf]
  simp only [State.pairOf]
  by_cases step : ∃ a, (s.summaryOf f).action = .step a
  · obtain ⟨a, step⟩ := step
    rw [(stepped a step).2]
    exact ⟨rfl, rfl, rfl⟩
  · rw [kept fun a h => step ⟨a, h⟩]
    exact ⟨rfl, rfl, rfl⟩

/-- What the evaluation settles of a channel, an order leaves: its gate phase and its lamp. -/
theorem State.complete_channel (run : s.running = true) (k : Fin 4) :
    let e := (s.recorded (s.complete f).steer).outs.channels[k]; let d := (s.complete f).outs.channels[k]
    d.phase = e.phase ∧ d.dark = e.dark ∧
    ((∀ a, (s.summaryOf f).action ≠ .step a) → d = e) ∧
    ∀ a, (s.summaryOf f).action = .step a →
      (s.config.outs[k].mode ≠ .train → d = { e with pulseEnd := e.pulseEnd.map fun g => g.plus a, tail := none }) ∧
      (s.config.outs[k].mode = .train → d = { e with high := false, edge := none }) := by
  intro e d
  obtain ⟨kept, stepped⟩ := s.complete_outs f run
  have still (h : ∀ a, (s.summaryOf f).action ≠ .step a) : d = e := by simp only [d, e, kept h]
  have moved (a : Int) (h : (s.summaryOf f).action = .step a) :
      (s.config.outs[k].mode ≠ .train → d = { e with pulseEnd := e.pulseEnd.map fun g => g.plus a, tail := none }) ∧
      (s.config.outs[k].mode = .train → d = { e with high := false, edge := none }) := by
    obtain ⟨acquire, outs⟩ := stepped a h
    obtain ⟨other, train⟩ := (s.recorded (s.complete f).steer).takeStep_channel a k
    simp only [d, outs]
    refine ⟨other, fun mode => ?_⟩
    obtain ⟨frame, stops, -⟩ := train mode
    have unsettled : (s.complete f).steer.nodeState.settled = false := by rw [acquire]; rfl
    rw [frame, stops (State.recorded_trainRuns unsettled mode)]
  refine ⟨?_, ?_, still, moved⟩
  all_goals
    by_cases step : ∃ a, (s.summaryOf f).action = .step a
    · obtain ⟨a, step⟩ := step
      obtain ⟨other, train⟩ := moved a step
      by_cases mode : s.config.outs[k].mode = .train
      · rw [train mode]
      · rw [other mode]
    · rw [still fun a h => step ⟨a, h⟩]

end Sys2Proof.Machine
end

section
/-! SUPPORT. TOP_OF_SECOND and ROUND_COMPLETION at the outputs, settled (R132 to R137, R139 to R141, R151, R153). -/

namespace Sys2Proof.Machine

/-- Settles O38: at a top each channel begins alone or with its pair; at a completion each is evaluated, and then stepped. -/
theorem topOfSecondDrivesOutputs : Obligations.TopOfSecondDrivesOutputs := by
  intro e s k u o c p free running
  have run : u.running = true := u.running_of free running
  refine ⟨fun top named reached => ⟨u.takeTop top, ?topTaken, ?top⟩, fun f flight => ⟨u.complete f, ?completed, ?completion⟩⟩
  case topTaken => exact State.exec_topOfSecond named (State.clocked_of free (NodeState.clocked_of_running running)) reached
  case completed => exact State.exec_roundCompletion free running flight
  case top =>
    intro d p' pulse train active both markerHigh closes
    have channel : d = u.channelAtTop top k c := State.takeTop_channel running k
    have pairOf : p' = if u.paired k then p.atTop (u.markerHigh k) top else p := State.takeTop_pairOf running k
    have activeAlone : u.activeAlone k = true ↔ active k := u.activeAlone_iff k
    have activePair : u.activePair k = true ↔ both := u.activePair_iff k
    have marker : u.markerHigh k = true ↔ markerHigh := u.markerHigh_iff k
    refine ⟨fun alone gated => ?gated, fun alone code => ?code, fun paired => ?paired⟩
    case gated =>
      rw [channel, State.channelAtTop_of_alone alone]
      refine ⟨Channel.atTop_of_muted gated, fun unmuted on => ?on, fun unmuted off => ?off⟩
      case on =>
        rw [activeAlone.mpr on, Channel.atTop_of_active gated unmuted]
        unfold Channel.beginAt
        split <;> rfl
      case off => rw [Bool.eq_false_iff.mpr (mt activeAlone.mp off), Channel.atTop_of_inactive gated unmuted]
    case code =>
      rw [channel, State.channelAtTop_of_alone alone, Channel.atTop_of_code code]
      refine ⟨fun still => if_neg fun ⟨on, unmuted⟩ => ?_, fun unmuted on => if_pos ⟨activeAlone.mpr on, unmuted⟩⟩
      exact still.elim unmuted fun off => off (activeAlone.mp on)
    case paired =>
      rw [if_pos paired] at pairOf
      rw [channel, State.channelAtTop_of_paired paired, ← pairOf]
      refine ⟨fun isTrain => ?train, fun isMarker => ?marker, ?phases⟩
      case train =>
        rw [decide_eq_true isTrain, Channel.pairedAtTop_train]
        exact ⟨fun ⟨phase, on⟩ => if_pos ⟨phase, activePair.mpr on⟩, fun off => if_neg (mt (And.imp_right activePair.mp) off)⟩
      case marker =>
        have untrained : ¬(k = 0 ∨ k = 2) := by omega
        have marks : closes ∨ (u.activePair k = true ∧ (p'.phase = .lead ∨ p'.phase = .both)) ↔
            closes ∨ (both ∧ (p'.phase = .lead ∨ p'.phase = .both)) := or_congr_right (and_congr_left' activePair)
        rw [decide_eq_false untrained, Channel.pairedAtTop_marker]
        exact ⟨fun rises => if_pos (marks.mpr rises), fun still => if_neg (mt marks.mp still)⟩
      case phases =>
        rw [pairOf]
        refine ⟨PairState.atTop_of_still, PairState.atTop_of_armed, PairState.atTop_of_lead, ?rises, ?waits, ?closing, ?left⟩
        case rises =>
          rintro ⟨closing, toCome⟩ low
          rw [PairState.atTop_of_closes closing toCome, if_neg (mt marker.mp low)]
        case waits =>
          rintro ⟨closing, toCome⟩ high
          rw [PairState.atTop_of_closes closing toCome, if_pos (marker.mpr high)]
        case closing => exact fun closing closed => (PairState.atTop_of_closed closing closed).trans (if_pos rfl)
        case left => exact fun q closing closed other => (PairState.atTop_of_closed closing closed).trans (if_neg other)
  case completion =>
    intro d p' m active both gated mutes
    have published : m = u.summaryOf f := by simp only [m, u.complete_round f run]
    have evaluated := (u.setSteer (u.complete f).steer).evaluateChannel_evaluated k c
    rw [← u.recorded_channel] at evaluated
    have activePair : (u.setSteer (u.complete f).steer).activePair k = true ↔ both := State.activePair_iff _ k
    obtain ⟨phase, dark, kept, stepped⟩ := u.complete_channel f run k
    obtain ⟨latch, timing, pairOf⟩ := u.complete_pairOf f run k
    rw [published]
    refine ⟨latch, timing, ?dark, fun g => ⟨fun a => ?armed, fun a => ?muted⟩, fun g => ?ungated, fun alone => ?alone,
      fun paired on => ?on, fun paired off => ?off, fun still => ?still, fun a step => ⟨fun mode => ?other, fun mode => ?train⟩⟩
    case dark => rw [show d.dark = _ from dark, evaluated.frame]
    case armed => exact phase.trans (evaluated.armed g a)
    case muted => exact phase.trans (evaluated.muted g a)
    case ungated => exact phase.trans (evaluated.ungated g)
    case alone => exact pairOf.trans (if_neg (Bool.eq_false_iff.mp alone))
    case on =>
      rw [if_pos paired, activePair.mpr on] at pairOf
      exact pairOf.trans (PairState.evaluate_of_active _)
    case off =>
      rw [if_pos paired, Bool.eq_false_iff.mpr (mt activePair.mp off)] at pairOf
      exact pairOf.trans (PairState.evaluate_of_inactive _)
    case still =>
      rw [show d = _ from kept still]
      refine ⟨by rw [evaluated.frame], by rw [evaluated.frame], evaluated.train, evaluated.unmuted, fun g mute code fr current => ?_,
        fun g mute code silent => ?_, evaluated.other⟩
      · exact (evaluated.code g mute code).trans (State.symbolTail_of_frame _ current)
      · exact (evaluated.code g mute code).trans (State.symbolTail_of_none _ silent)
    case other =>
      rw [show d = _ from (stepped a step).1 mode, evaluated.frame]
      exact ⟨rfl, rfl, rfl⟩
    case train =>
      rw [show d = _ from (stepped a step).2 mode, evaluated.frame]
      exact ⟨rfl, rfl, rfl⟩

end Sys2Proof.Machine
end

section
/-! SUPPORT. The Code Composer at a half second: the calendar, the places of a frame's fields and its MARKs, and the composition
(R127, R128, R148 to R150). -/

namespace Sys2Proof.Machine

/-! ## The calendar (R128) -/

/-- The days of a century, in blocks of four years that begin with a leap year. -/
theorem yearAndDay_spec {d : Nat} (century : d < 36525) :
    365 * (yearAndDay d).1 + ((yearAndDay d).1 + 3) / 4 + (yearAndDay d).2 = d + 1 ∧ 1 ≤ (yearAndDay d).2 ∧
      (yearAndDay d).2 ≤ (if (yearAndDay d).1 % 4 = 0 then 366 else 365) ∧ (yearAndDay d).1 < 100 := by
  unfold yearAndDay
  by_cases leapYear : d % 1461 < 366
  · simp only [leapYear, if_true]
    rw [if_pos (by omega)]
    omega
  · simp only [leapYear, if_false]
    rw [if_neg (by omega)]
    omega

theorem utcCount_eq (e offset : Int) : (utcCount e offset : Int) = (e - offset) % 3155760000 :=
  Int.toNat_of_nonneg (Int.emod_nonneg _ (by decide))

theorem utcCount_lt (e offset : Int) : utcCount e offset < 3155760000 := by
  have := utcCount_eq e offset
  omega

/-- The count of seconds of its century that a presentation stands for, an inserted second counted as the one before it. -/
def Calendar.count (c : Calendar) : Int :=
  (((365 * c.year + (c.year + 3) / 4 + c.day - 1) * 24 + c.hour) * 60 + c.minute) * 60 +
    (if c.second = 60 then 59 else c.second : Nat)

theorem UtcValues.inserted_iff (v : UtcValues) (e : Int) :
    v.inserted e = true ↔ v.pending = true ∧ v.deletion = false ∧ (e - v.offset) % 86400 = 0 := by
  simp only [UtcValues.inserted, Bool.and_eq_true, Bool.not_eq_true', decide_eq_true_eq, and_assoc]

/-- What a presentation's fields lie in, whatever the second. -/
theorem UtcValues.present_bounds (v : UtcValues) (e : Int) :
    (v.present e).minute < 60 ∧ (v.present e).hour < 24 ∧ 1 ≤ (v.present e).day ∧
      (v.present e).day ≤ (if (v.present e).year % 4 = 0 then 366 else 365) ∧ (v.present e).year < 100 := by
  have today := utcCount_lt e v.offset
  have before := utcCount_lt (e - 1) v.offset
  unfold UtcValues.present
  split
  · obtain ⟨-, first, last, year⟩ := yearAndDay_spec (d := utcCount (e - 1) v.offset / 86400) (by omega)
    exact ⟨show 59 < 60 by decide, show 23 < 24 by decide, first, last, year⟩
  · obtain ⟨-, first, last, year⟩ := yearAndDay_spec (d := utcCount e v.offset / 86400) (by omega)
    exact ⟨Nat.mod_lt _ (by decide), Nat.mod_lt _ (by decide), first, last, year⟩

/-- An inserted second follows the last second of a day, and is shown as that day's 23:59:60. -/
theorem UtcValues.present_of_inserted {v : UtcValues} {e : Int} (inserted : v.inserted e = true) :
    (v.present e).second = 60 ∧ (v.present e).minute = 59 ∧ (v.present e).hour = 23 ∧
      (e - 1 - v.offset) % 3155760000 = (v.present e).count := by
  obtain ⟨-, -, midnight⟩ := (v.inserted_iff e).mp inserted
  have before := utcCount_eq (e - 1) v.offset
  obtain ⟨date, -⟩ := yearAndDay_spec (d := utcCount (e - 1) v.offset / 86400) (by omega)
  rw [UtcValues.present, if_pos inserted]
  refine ⟨rfl, rfl, rfl, ?_⟩
  simp only [Calendar.count, if_true]
  omega

theorem UtcValues.present_of_not_inserted {v : UtcValues} {e : Int} (ordinary : ¬v.inserted e = true) :
    (v.present e).second < 60 ∧ (e - v.offset) % 3155760000 = (v.present e).count := by
  have now := utcCount_eq e v.offset
  obtain ⟨date, -⟩ := yearAndDay_spec (d := utcCount e v.offset / 86400) (by omega)
  rw [UtcValues.present, if_neg ordinary]
  have second := Nat.mod_lt (utcCount e v.offset) (show 0 < 60 by decide)
  refine ⟨second, ?_⟩
  simp only [Calendar.count, if_neg second.ne]
  omega

/-! ## The fields of a frame (R148) -/

/-- A binary field of `width` symbols stands in a list of symbols from `place` on, least significant bit first. -/
def FieldAt (l : List Symbol) (place width value : Nat) : Prop :=
  ∀ i : Nat, i < width → l[place + i]? = some (if value.testBit i then .one else .zero)

theorem fieldSymbols_getElem? {w i : Nat} (n : Nat) (inside : i < w) :
    (fieldSymbols w n)[i]? = some (symbolOf (n.testBit i)) := by
  simp [fieldSymbols, List.getElem?_range inside]

theorem FieldAt.of_cut {l : List Symbol} {place width value : Nat} (cut : (l.drop place).take width = fieldSymbols width value) :
    FieldAt l place width value := by
  intro i inside
  rw [← List.getElem?_drop, ← List.getElem?_take_of_lt inside, cut, fieldSymbols_getElem? value inside]
  rfl

/-- A flag is a field of one symbol. -/
theorem fieldSymbols_flag (b : Bool) : fieldSymbols 1 (if b then 1 else 0) = [symbolOf b] := by cases b <;> rfl

theorem FieldAt.of_value_eq {l : List Symbol} {place width m n : Nat} (field : FieldAt l place width m) (same : m = n) :
    FieldAt l place width n := same ▸ field

theorem symbolOf_decide (p : Prop) [Decidable p] : symbolOf (decide p) = if p then .one else .zero := by
  by_cases h : p <;> simp [symbolOf, h]

theorem symbolOf_ne_mark (b : Bool) : .mark ≠ symbolOf b := by cases b <;> decide

theorem mark_not_mem_fieldSymbols (w n : Nat) : .mark ∉ fieldSymbols w n := by
  simp only [fieldSymbols, List.mem_map, not_exists, not_and]
  exact fun i _ => (symbolOf_ne_mark _).symm

/-- Where `a` stands in a list that begins with a part without it. -/
theorem getElem?_append_cons_eq_some_iff {α : Type} {a : α} {l : List α} (absent : a ∉ l) (m : List α) (i : Nat) :
    (l ++ a :: m)[i]? = some a ↔ i = l.length ∨ l.length < i ∧ m[i - (l.length + 1)]? = some a := by
  rcases Nat.lt_trichotomy i l.length with before | here | behind
  · rw [List.getElem?_append_left before]
    exact ⟨fun found => absurd (List.mem_of_getElem? found) absent, fun h => by omega⟩
  · simp [here]
  · rw [List.getElem?_append_right behind.le, List.getElem?_cons, if_neg (by omega), Nat.sub_sub]
    simp [behind, behind.ne']

section Frame

variable (c : Calendar) (cls : Nat) (st : NodeState) (v : UtcValues) (known stepped : Bool)

theorem frameSymbols_length : (frameSymbols c cls st v known stepped).length = 50 := rfl

/-- The MARKs part a frame into data symbols, none of them a MARK. -/
theorem frameSymbols_mark_iff (i : Nat) :
    (frameSymbols c cls st v known stepped)[i]? = some .mark ↔ i = 0 ∨ i = 34 ∨ i = 49 := by
  have parts : frameSymbols c cls st v known stepped = [] ++ .mark :: ((dataSymbols c cls st v known stepped).1 ++ .mark ::
      (((dataSymbols c cls st v known stepped).2 ++ fieldSymbols 3 (checkCount (dataSymbols c cls st v known stepped))) ++
        .mark :: [])) := by simp [frameSymbols]
  have left : .mark ∉ (dataSymbols c cls st v known stepped).1 := by simp [dataSymbols, mark_not_mem_fieldSymbols]
  have right : .mark ∉ (dataSymbols c cls st v known stepped).2 ++
      fieldSymbols 3 (checkCount (dataSymbols c cls st v known stepped)) := by
    simp [dataSymbols, mark_not_mem_fieldSymbols, symbolOf_ne_mark]
  have leftLength : (dataSymbols c cls st v known stepped).1.length = 33 := rfl
  have rightLength : ((dataSymbols c cls st v known stepped).2 ++
      fieldSymbols 3 (checkCount (dataSymbols c cls st v known stepped))).length = 14 := rfl
  rw [parts, getElem?_append_cons_eq_some_iff List.not_mem_nil, getElem?_append_cons_eq_some_iff left,
    getElem?_append_cons_eq_some_iff right, leftLength, rightLength]
  simp only [List.length_nil, List.getElem?_nil, reduceCtorEq, and_false, or_false]
  omega

/-- The date and time at positions 1 to 33. -/
theorem frameSymbols_calendar : FieldAt (frameSymbols c cls st v known stepped) 1 6 c.second ∧
    FieldAt (frameSymbols c cls st v known stepped) 7 6 c.minute ∧ FieldAt (frameSymbols c cls st v known stepped) 13 5 c.hour ∧
    FieldAt (frameSymbols c cls st v known stepped) 18 9 c.day ∧ FieldAt (frameSymbols c cls st v known stepped) 27 7 c.year :=
  ⟨.of_cut rfl, .of_cut rfl, .of_cut rfl, .of_cut rfl, .of_cut rfl⟩

/-- The class and the state code at positions 35 to 41. -/
theorem frameSymbols_state : FieldAt (frameSymbols c cls st v known stepped) 35 4 cls ∧
    FieldAt (frameSymbols c cls st v known stepped) 39 3 st.symbolCode :=
  ⟨.of_cut rfl, .of_cut rfl⟩

/-- The four flags at positions 42 to 45. -/
theorem frameSymbols_flags : FieldAt (frameSymbols c cls st v known stepped) 42 1 (if v.pending then 1 else 0) ∧
    FieldAt (frameSymbols c cls st v known stepped) 43 1 (if v.deletion then 1 else 0) ∧
    (frameSymbols c cls st v known stepped)[44]? = some (symbolOf known) ∧
    (frameSymbols c cls st v known stepped)[45]? = some (symbolOf stepped) :=
  ⟨.of_cut (fieldSymbols_flag v.pending).symm, .of_cut (fieldSymbols_flag v.deletion).symm, rfl, rfl⟩

/-- The check count at positions 46 to 48; the MARKs at 0 and 34 add no ONE to it. -/
theorem frameSymbols_check : FieldAt (frameSymbols c cls st v known stepped) 46 3
    ((((frameSymbols c cls st v known stepped).take 46).count .one) % 8) := by
  have covered : (frameSymbols c cls st v known stepped).take 46 =
    .mark :: (dataSymbols c cls st v known stepped).1 ++ .mark :: (dataSymbols c cls st v known stepped).2 := rfl
  have check : (((frameSymbols c cls st v known stepped).take 46).count .one) % 8 =
      checkCount (dataSymbols c cls st v known stepped) := by
    simp [covered, checkCount]
  rw [check]
  exact .of_cut rfl

end Frame

/-! ## The composition (R149, R150) -/

theorem UtcValues.atTop_of_leaps {x : UtcValues} {e : Int} (leaps : x.leapsAt e = true) : x.atTop e = x.leap := if_pos leaps

theorem UtcValues.atTop_of_not_leaps {x : UtcValues} {e : Int} (still : ¬x.leapsAt e = true) : x.atTop e = x := if_neg still

/-- The frame describes the second after the half second, its number taken modulo 2^40. -/
theorem State.composeFrame_second (s : State) (t : Timestamp) (reference : BitVec 8) :
    (s.composeFrame (secondAfter t) reference).second = BitVec.ofNat 40 (t.seconds + 1) :=
  BitVec.eq_of_toNat_eq (by simp [State.composeFrame, secondAfter])

theorem CodeComposer.nextReference_of_pending {c : CodeComposer} {g : CodeFrame} (pending : c.pendingFrame = some g) :
    c.nextReference = g.step := by
  rw [CodeComposer.nextReference, pending]

theorem CodeComposer.nextReference_of_current {c : CodeComposer} {g : CodeFrame} (pending : c.pendingFrame = none)
    (current : c.current = some g) : c.nextReference = g.step := by
  rw [CodeComposer.nextReference, pending, current]

theorem CodeComposer.nextReference_of_none {c : CodeComposer} (pending : c.pendingFrame = none) (current : c.current = none) :
    c.nextReference = c.referenceStep := by
  rw [CodeComposer.nextReference, pending, current]

theorem State.exec_halfSecond {s : State} {e : Elapsed} {half : Timestamp} (named : (s.elapse e).clock.named.half = some half)
    (run : (s.elapse e).running = true) (reached : (s.elapse e).clock.reading.reached half = true) :
    exec (.halfSecond e) s = .next ((s.elapse e).takeHalf half) := by
  simp only [exec, execHalfSecond, named, run, reached, Bool.and_self, if_true]

/-- Settles O39: the frame's fields stand at their places, and the calendar presents its second under the values after the
leap. -/
theorem halfSecondComposesFrame : Obligations.HalfSecondComposesFrame := by
  intro e s half u x second leaps free running named reached
  let v := x.atTop second
  let y := u.steer
  let moved := decide (u.clock.stepCount ≠ u.code.nextReference)
  have atTop : x.leapsAt second = true ↔ leaps := x.leapsAt_iff second
  have inserted := v.inserted_iff second
  obtain ⟨minBound, hourBound, firstDay, lastDay, century⟩ := v.present_bounds second
  obtain ⟨sec, min, hour, day, year⟩ :=
    frameSymbols_calendar (v.present second) y.accuracyClass y.nodeState v y.epochKnown moved
  obtain ⟨cls, state⟩ := frameSymbols_state (v.present second) y.accuracyClass y.nodeState v y.epochKnown moved
  obtain ⟨pending, deletion, known, stepped⟩ :=
    frameSymbols_flags (v.present second) y.accuracyClass y.nodeState v y.epochKnown moved
  refine ⟨u.takeHalf half, u.composeFrame (secondAfter half) u.code.nextReference,
    State.exec_halfSecond named (u.running_of free running) reached, rfl, rfl,
    fun g composed => CodeComposer.nextReference_of_pending composed,
    fun g taken current => CodeComposer.nextReference_of_current taken current,
    fun taken first => CodeComposer.nextReference_of_none taken first,
    u.composeFrame_second half _, rfl, rfl, fun i _ => frameSymbols_mark_iff _ _ _ _ _ _ i,
    ⟨v, fun still => UtcValues.atTop_of_not_leaps (mt atTop.mp still), fun leap => UtcValues.atTop_of_leaps (atTop.mpr leap),
      ⟨_, _, _, _, _, sec, min, hour, day, year, minBound, hourBound, firstDay, lastDay, century,
        fun ins => UtcValues.present_of_inserted (inserted.mpr ins),
        fun ordinary => UtcValues.present_of_not_inserted (mt inserted.mp ordinary)⟩, pending, deletion⟩,
    cls, ?state, known, ?stepped, frameSymbols_check _ _ _ _ _ _⟩
  case state => exact state.of_value_eq (by cases u.steer.nodeState <;> rfl)
  case stepped => exact stepped.trans (congrArg some (symbolOf_decide _))

end Sys2Proof.Machine
end

section
/-! SUPPORT. The Capture Unit read by the host: the record that READ_CAPTURE hands out, byte by byte, and the empty read (R162). -/

namespace Sys2Proof.Machine

variable {s : State} {e : Elapsed}

/-- The place of a node state in the list of Table 9-2 (log entry 10). -/
theorem NodeState.capturePosition_of_listed : ∀ {k : Nat} {st : NodeState},
    [NodeState.listen, .acquire, .track, .holdover, .anchored, .fault][k]? = some st → st.capturePosition = k
  | 0, _, rfl => rfl
  | 1, _, rfl => rfl
  | 2, _, rfl => rfl
  | 3, _, rfl => rfl
  | 4, _, rfl => rfl
  | 5, _, rfl => rfl
  | _ + 6, _, listed => nomatch listed

theorem EdgeKind.nameByte_position (x : EdgeKind) : nameByte x.position = [if x = .rise then 0#8 else 1#8] := by
  cases x <;> rfl

/-- The bytes of a record (Table 9-2, R168). -/
theorem CaptureRecord.data_eq (r : CaptureRecord) : r.data =
    [BitVec.ofNat 8 r.input.val, if r.edge = .rise then 0#8 else 1#8] ++ beBytes 5 r.snapshot.stamp.seconds ++
      beBytes 4 (r.snapshot.stamp.fraction / 4 : Nat) ++ beBytes 1 (r.snapshot.stamp.fraction % 4 : Nat) ++
      beBytes 1 r.snapshot.accuracyClass ++
      [BitVec.ofNat 8 r.snapshot.nodeState.capturePosition, r.snapshot.step, if r.loss then 1#8 else 0#8] := by
  simp only [CaptureRecord.data, EdgeKind.nameByte_position, numBytes_byte, List.append_assoc]
  simp only [numBytes, beBytes_one, stampBytes, nameByte, flagByte, List.append_assoc]
  rfl

theorem State.readFifo_of_record {r : CaptureRecord} {rest : List CaptureRecord} (oldest : s.capture.fifo = r :: rest) :
    s.readFifo = (s.setCapture { s.capture with fifo := rest, lastEmpty := false }).respond 1 .accept
      (r.data ++ [BitVec.ofNat 8 rest.length]) := by
  rw [← beBytes_one, State.readFifo, oldest]
  rfl

theorem State.readFifo_of_empty (empty : s.capture.fifo = []) :
    s.readFifo = ((s.setCapture { s.capture with lastEmpty := true, underrun := true }).report .underrun).respond 1 .empty [] := by
  rw [State.readFifo, empty]

theorem State.exec_readCapture (free : (s.elapse e).pins.resetAsserted = false) :
    exec (.readCapture e) s = .next (s.elapse e).readFifo :=
  congrArg Host.Outcome.next (if_neg (by rw [State.held, free]; nofun))

/-- Settles O44: the FIFO holds an oldest record, or is empty. -/
theorem readCaptureAnswers : Obligations.ReadCaptureAnswers := by
  intro e s u free
  rw [State.exec_readCapture free]
  refine ⟨fun r rest oldest => ⟨BitVec.ofNat 8 r.snapshot.nodeState.capturePosition, fun k listed => ?state, ?record⟩,
    fun empty => ?empty⟩
  case state => rw [NodeState.capturePosition_of_listed listed]
  case record =>
    rw [State.readFifo_of_record oldest, CaptureRecord.data_eq]
    rfl
  case empty =>
    rw [State.readFifo_of_empty empty]
    rfl

end Sys2Proof.Machine
end

section
/-! SUPPORT. A filtered edge, whatever brings it about: the edges that qualify and that are captures, the arm states after it, and
the FIFO that stores or discards a capture (R156 to R160). -/

namespace Sys2Proof.Machine

variable {s : State}

/-! ## Edges that qualify, and captures (R157) -/

theorem edgeTo_not (l : Bool) : edgeTo (!l) = if l then .fall else .rise := by cases l <;> rfl

theorem EdgeSetting.admits_edgeTo_iff (x : EdgeSetting) (level : Bool) : x.admits (edgeTo level) = true ↔
    (x = .rise ∧ level = true) ∨ (x = .fall ∧ level = false) ∨ x = .both := by
  cases x <;> cases level <;> simp [EdgeSetting.admits, edgeTo]

theorem CaptureUnit.captures_iff (c : CaptureUnit) (group : Option GroupId) : c.captures group = true ↔
    group = none ∨ (group = some .g0 ∧ c.arm0 = some .armed) ∨ (group = some .g1 ∧ c.arm1 = some .armed) := by
  have grouped (g : GroupId) : c.captures (some g) = true ↔ c.arm g = some .armed := decide_eq_true_iff
  rcases group with _ | _ | _
  · simp [CaptureUnit.captures]
  · simp [grouped, CaptureUnit.arm]
  · simp [grouped, CaptureUnit.arm]

/-- Whether a filtered edge of an input to a level qualifies (R157). -/
def State.edgeQualifies (s : State) (i : Fin 8) (level : Bool) : Bool := s.config.inputs[i].edge.admits (edgeTo level)

/-- Whether a filtered edge of an input to a level is a capture (R157). -/
def State.edgeCaptured (s : State) (i : Fin 8) (level : Bool) : Bool :=
  s.edgeQualifies i level && s.capture.captures s.config.inputs[i].group

theorem State.edgeQualifies_iff (s : State) (i : Fin 8) (level : Bool) : s.edgeQualifies i level = true ↔
    (s.config.inputs[i].edge = .rise ∧ level = true) ∨ (s.config.inputs[i].edge = .fall ∧ level = false) ∨
      s.config.inputs[i].edge = .both := EdgeSetting.admits_edgeTo_iff _ level

theorem State.edgeCaptured_iff (s : State) (i : Fin 8) (level : Bool) : s.edgeCaptured i level = true ↔
    s.edgeQualifies i level = true ∧ (s.config.inputs[i].group = none ∨
      (s.config.inputs[i].group = some .g0 ∧ s.capture.arm0 = some .armed) ∨
      (s.config.inputs[i].group = some .g1 ∧ s.capture.arm1 = some .armed)) := by
  rw [State.edgeCaptured, Bool.and_eq_true, CaptureUnit.captures_iff]

/-! ## The FIFO (R160) -/

theorem CaptureUnit.store_frame (c : CaptureUnit) (i : Fin 8) (edge : EdgeKind) (x : Snapshot) :
    c.store i edge x = { c with
      fifo := (c.store i edge x).fifo
      overflow := (c.store i edge x).overflow
      lossPending := (c.store i edge x).lossPending } := by
  unfold CaptureUnit.store
  split <;> rfl

theorem State.storeCapture_of_room (i : Fin 8) (edge : EdgeKind) (x : Snapshot) (room : s.capture.fifo.length < 32) :
    s.storeCapture i edge x = s.setCapture { s.capture with
      fifo := s.capture.fifo ++ [{ input := i, edge := edge, snapshot := x, loss := s.capture.lossPending }]
      lossPending := false } := by
  rw [State.storeCapture, CaptureUnit.store, if_pos room, decide_eq_false (Nat.not_le.mpr room), State.reportIf_false]

theorem State.storeCapture_of_full (i : Fin 8) (edge : EdgeKind) (x : Snapshot) (full : 32 ≤ s.capture.fifo.length) :
    s.storeCapture i edge x = (s.setCapture { s.capture with
      overflow := min 255 (s.capture.overflow + 1), lossPending := true }).report .captureLoss := by
  rw [State.storeCapture, CaptureUnit.store, if_neg (Nat.not_lt.mpr full), decide_eq_true full, State.reportIf_true]
  rfl

/-! ## Arm states (R158) -/

theorem armAfter_of_disarms {arm : Option ArmState} {disarms inactive : Bool} (h : disarms = true) :
    armAfter arm disarms inactive = some .disarmed := if_pos h

theorem armAfter_of_inactive {arm : Option ArmState} {disarms inactive : Bool} (h : disarms = false) (rest : inactive = true) :
    armAfter arm disarms inactive = some .armed := by
  rw [armAfter, h, rest]
  rfl

theorem armAfter_of_active {arm : Option ArmState} {disarms inactive : Bool} (h : disarms = false) (active : inactive = false) :
    armAfter arm disarms inactive = arm := by
  rw [armAfter, h, active]
  rfl

/-- An input whose level is not held counts as low. -/
theorem CaptureUnit.groupInactive_level_iff (c : CaptureUnit) (cfg : ConfigRecord) (g : GroupId) :
    groupInactive cfg g c.level = true ↔ ∀ j : Fin 8, cfg.inputs[j].group = some g →
      (cfg.inputs[j].edge = .rise → c.inputs[j].level ≠ some true) ∧
      (cfg.inputs[j].edge = .fall → c.inputs[j].level = some true) := by
  have low (l : Option Bool) : l.getD false = false ↔ l ≠ some true := by rcases l with _ | _ | _ <;> decide
  have high (l : Option Bool) : l.getD false = true ↔ l = some true := by rcases l with _ | _ | _ <;> decide
  simp only [groupInactive_iff, CaptureUnit.level, low, high]

/-! ## The filtered edge (R156 to R160) -/

/-- Levels and arm states moved by a filtered edge, before a capture is stored. -/
def State.edgeMoved (s : State) (i : Fin 8) (level : Bool) : State :=
  (s.setFiltered i level).moveArms i (s.edgeQualifies i level)

theorem State.filteredEdge_eq (s : State) (i : Fin 8) (level : Bool) (x : Snapshot) : s.filteredEdge i level x =
    if s.edgeCaptured i level then (s.edgeMoved i level).storeCapture i (edgeTo level) x else s.edgeMoved i level := rfl

section Edge

variable (s : State) (i : Fin 8) (level : Bool) (x : Snapshot)

theorem State.filteredEdge_frame :
    s.filteredEdge i level x = { s with
      capture := (s.filteredEdge i level x).capture, cond := (s.filteredEdge i level x).cond } := by
  obtain ⟨c, k, moved, -, -⟩ := s.filteredEdge_moved i level x
  rw [moved]

/-- Only the FIFO and its counts tell a capture from an edge that is none. -/
theorem State.filteredEdge_capture : (s.filteredEdge i level x).capture = { (s.edgeMoved i level).capture with
    fifo := (s.filteredEdge i level x).capture.fifo
    overflow := (s.filteredEdge i level x).capture.overflow
    lossPending := (s.filteredEdge i level x).capture.lossPending } := by
  rw [State.filteredEdge_eq]
  cases s.edgeCaptured i level
  · rfl
  · simpa [State.storeCapture] using CaptureUnit.store_frame _ i (edgeTo level) x

theorem State.filteredEdge_inputs : (s.filteredEdge i level x).capture.inputs =
    s.capture.inputs.set i { level := some level, candidate := none } i.isLt := by
  rw [State.filteredEdge_capture]
  rfl

theorem State.filteredEdge_marks : (s.filteredEdge i level x).capture.lastEmpty = s.capture.lastEmpty ∧
    (s.filteredEdge i level x).capture.underrun = s.capture.underrun := by
  rw [State.filteredEdge_capture]
  exact ⟨rfl, rfl⟩

theorem State.filteredEdge_arm (g : GroupId) : (s.filteredEdge i level x).capture.arm g = armAfter (s.capture.arm g)
    (s.edgeQualifies i level && decide (s.config.inputs[i].group = some g))
    (groupInactive s.config g (s.filteredEdge i level x).capture.level) := by
  rw [State.filteredEdge_capture]
  cases g <;> rfl

variable {s i level}

/-- A qualifying edge disarms its group. -/
theorem State.filteredEdge_disarms {g : GroupId} (qualifies : s.edgeQualifies i level = true)
    (member : s.config.inputs[i].group = some g) : (s.filteredEdge i level x).capture.arm g = some .disarmed := by
  rw [State.filteredEdge_arm, armAfter_of_disarms (by simp only [qualifies, member, decide_true, Bool.and_self])]

/-- A group that the edge does not disarm is armed where its members all stand inactive. -/
theorem State.filteredEdge_arms {g : GroupId} (other : ¬(s.edgeQualifies i level = true ∧ s.config.inputs[i].group = some g)) :
    let b := (s.filteredEdge i level x).capture
    let inactive := ∀ j : Fin 8, s.config.inputs[j].group = some g →
      (s.config.inputs[j].edge = .rise → b.inputs[j].level ≠ some true) ∧
      (s.config.inputs[j].edge = .fall → b.inputs[j].level = some true)
    (inactive → b.arm g = some .armed) ∧ (¬inactive → b.arm g = s.capture.arm g) := by
  intro b inactive
  have stands : groupInactive s.config g b.level = true ↔ inactive := b.groupInactive_level_iff s.config g
  have keeps : (s.edgeQualifies i level && decide (s.config.inputs[i].group = some g)) = false := by
    simpa only [Bool.eq_false_iff, ne_eq, Bool.and_eq_true, decide_eq_true_eq] using other
  have after : b.arm g = _ := s.filteredEdge_arm i level x g
  exact ⟨fun rest => after.trans (armAfter_of_inactive keeps (stands.mpr rest)),
    fun active => after.trans (armAfter_of_active keeps (Bool.eq_false_iff.mpr (mt stands.mp active)))⟩

/-- An edge that is no capture leaves the FIFO. -/
theorem State.filteredEdge_passes (plain : ¬s.edgeCaptured i level = true) : let t := s.filteredEdge i level x
    t.capture.fifo = s.capture.fifo ∧ t.capture.overflow = s.capture.overflow ∧
      t.capture.lossPending = s.capture.lossPending ∧ t.cond = s.cond := by
  rw [State.filteredEdge_eq, if_neg plain]
  exact ⟨rfl, rfl, rfl, rfl⟩

/-- A capture is stored while the FIFO has room. -/
theorem State.filteredEdge_stores (captured : s.edgeCaptured i level = true) (room : s.capture.fifo.length < 32) :
    let t := s.filteredEdge i level x
    t.capture.lossPending = false ∧ t.capture.overflow = s.capture.overflow ∧ t.cond = s.cond ∧ t.capture.fifo =
      s.capture.fifo ++ [{ input := i, edge := edgeTo level, snapshot := x, loss := s.capture.lossPending }] := by
  rw [State.filteredEdge_eq, if_pos captured, State.storeCapture_of_room (s := s.edgeMoved i level) i _ x room]
  exact ⟨rfl, rfl, rfl, rfl⟩

/-- A capture at a full FIFO is discarded, counted and reported. -/
theorem State.filteredEdge_discards (captured : s.edgeCaptured i level = true) (full : 32 ≤ s.capture.fifo.length) :
    let t := s.filteredEdge i level x
    t.capture.lossPending = true ∧ t.capture.overflow = min 255 (s.capture.overflow + 1) ∧
      t.capture.fifo = s.capture.fifo ∧ t.cond = s.cond.raise 12 := by
  rw [State.filteredEdge_eq, if_pos captured, State.storeCapture_of_full (s := s.edgeMoved i level) i _ x full]
  exact ⟨rfl, rfl, rfl, rfl⟩

end Edge

/-! ## The filter time (R156) -/

/-- Without a candidate past the filter time nothing is due. -/
theorem State.takeFiltered_of_early {i : Fin 8}
    (early : ∀ c, s.capture.inputs[i].candidate = some c → c.held < 100 * s.config.glitch) : s.takeFiltered i = s := by
  unfold State.takeFiltered
  split
  · rfl
  · next c candidate => exact if_neg (Nat.not_le.mpr (early c candidate))

theorem State.takeFiltered_of_fresh {i : Fin 8} (fresh : s.capture.inputs[i].candidate = none) : s.takeFiltered i = s :=
  State.takeFiltered_of_early (by rw [fresh]; nofun)

theorem State.takeFiltered_of_due {i : Fin 8} {c : Candidate} {l : Bool} (candidate : s.capture.inputs[i].candidate = some c)
    (level : s.capture.inputs[i].level = some l) (due : 100 * s.config.glitch ≤ c.held) :
    s.takeFiltered i = s.filteredEdge i (!l) c.snapshot := by
  have old : s.capture.level i = l := by rw [CaptureUnit.level, level, Option.getD_some]
  rw [State.takeFiltered, candidate, old]
  exact if_pos due

/-! ## FILTERED_EDGE -/

theorem State.exec_filteredEdge {e : Elapsed} {i : Fin 8} (clocked : (s.elapse e).clocked = true) :
    exec (.filteredEdge e i) s = .next ((s.elapse e).takeFiltered i) :=
  congrArg Host.Outcome.next (if_pos clocked)

/-- Settles O42: the edge to the other level, by whether it qualifies, whether it is a capture, and whether the FIFO has room. -/
theorem filteredEdgeCaptures : Obligations.FilteredEdgeCaptures := by
  intro e i s x l u a set qualifies captured free clocked candidate level due
  have admitted : u.edgeQualifies i (!l) = true ↔ qualifies := by
    simpa only [Bool.not_eq_true', Bool.not_eq_false'] using u.edgeQualifies_iff i (!l)
  have stored : u.edgeCaptured i (!l) = true ↔ captured :=
    (u.edgeCaptured_iff i (!l)).trans (and_congr_left' admitted)
  have disarms {g : GroupId} (qual : qualifies) (member : set.group = some g) :=
    State.filteredEdge_disarms x.snapshot (admitted.mpr qual) member
  have arms {g : GroupId} (other : ¬(qualifies ∧ set.group = some g)) :=
    State.filteredEdge_arms x.snapshot (mt (And.imp_left admitted.mp) other)
  obtain ⟨lastEmpty, underrun⟩ := u.filteredEdge_marks i (!l) x.snapshot
  exact ⟨u.filteredEdge i (!l) x.snapshot,
    (State.exec_filteredEdge (State.clocked_of free clocked)).trans (congrArg _ (State.takeFiltered_of_due candidate level due)),
    u.filteredEdge_frame i _ _, u.filteredEdge_inputs i _ _, lastEmpty, underrun, disarms, disarms, arms, arms,
    fun plain => State.filteredEdge_passes _ (mt stored.mp plain),
    fun capt room => edgeTo_not l ▸ State.filteredEdge_stores _ (stored.mpr capt) room,
    fun capt full => State.filteredEdge_discards _ (stored.mpr capt) full⟩

end Sys2Proof.Machine
end

section
/-! SUPPORT. RAW_CHANGE: what a change of the line makes of the candidate, and of an input without a filter (R155, R156). -/

namespace Sys2Proof.Machine

variable {s : State}

/-! ## The candidate (R156) -/

section Raw

variable {x : EventInput} {l level : Bool} (shot : Snapshot)

theorem EventInput.raw_level (x : EventInput) (level : Bool) : (x.raw level shot).level = x.level := by
  unfold EventInput.raw
  split
  · rfl
  · split <;> rfl

theorem EventInput.raw_of_return (filtered : x.level = some l) (back : level = l) :
    x.raw level shot = { x with candidate := none } := by
  rw [EventInput.raw, filtered]
  exact if_pos back

theorem EventInput.raw_of_away (filtered : x.level = some l) (away : level ≠ l) :
    x.raw level shot = { x with candidate := some (x.candidate.getD { snapshot := shot, held := 0 }) } := by
  rw [EventInput.raw, filtered]
  exact if_neg away

theorem EventInput.raw_candidate_of_held (filtered : x.level = some l) (away : level ≠ l) (holds : x.candidate ≠ none) :
    (x.raw level shot).candidate = x.candidate := by
  obtain ⟨c, candidate⟩ := Option.ne_none_iff_exists'.mp holds
  rw [EventInput.raw_of_away shot filtered away, candidate]
  rfl

theorem EventInput.raw_candidate_of_none (filtered : x.level = some l) (away : level ≠ l) (fresh : x.candidate = none) :
    (x.raw level shot).candidate = some { snapshot := shot, held := 0 } := by
  rw [EventInput.raw_of_away shot filtered away, fresh]
  rfl

end Raw

/-! ## The change while the inputs are watched -/

/-- The part once the candidate of an input has followed its line to a level. -/
def State.rawMoved (s : State) (i : Fin 8) (level : Bool) : State :=
  s.setCapture { s.capture with inputs := s.capture.inputs.set i (s.capture.inputs[i].raw level s.snapshot) i.isLt }

/-- With no candidate past the filter time, the line alone decides. -/
theorem State.rawChange_of_early {i : Fin 8} (level : Bool) (filters : 0 < s.config.glitch)
    (early : ∀ c, s.capture.inputs[i].candidate = some c → c.held < 100 * s.config.glitch) :
    s.rawChange i level = s.rawMoved i level := by
  rw [State.rawChange, State.takeFiltered_of_early early]
  exact if_neg (Nat.mul_pos (by decide) filters).ne'

/-- Without a filter, a candidate that the change begins is due at once. -/
theorem State.rawChange_of_unfiltered {i : Fin 8} (level : Bool) (unfiltered : s.config.glitch = 0)
    (fresh : s.capture.inputs[i].candidate = none) : s.rawChange i level = (s.rawMoved i level).takeFiltered i := by
  rw [State.rawChange, State.takeFiltered_of_fresh fresh]
  exact if_pos (congrArg (100 * ·) unfiltered)

theorem State.rawMoved_of_return {i : Fin 8} {l level : Bool} (filtered : s.capture.inputs[i].level = some l) (back : level = l)
    (fresh : s.capture.inputs[i].candidate = none) : s.rawMoved i level = s := by
  have same : s.capture.inputs[i].raw level s.snapshot = s.capture.inputs[i] := by
    rw [EventInput.raw_of_return _ filtered back, ← fresh]
  rw [State.rawMoved, same, Fin.getElem_fin, Vector.set_getElem_self]
  rfl

/-- Without a filter a change away from the filtered level is a filtered edge, with the snapshot of its instant. -/
theorem State.takeFiltered_rawMoved {i : Fin 8} {l level : Bool} (unfiltered : s.config.glitch = 0)
    (filtered : s.capture.inputs[i].level = some l) (away : level ≠ l) (fresh : s.capture.inputs[i].candidate = none) :
    (s.rawMoved i level).takeFiltered i = (s.rawMoved i level).filteredEdge i level s.snapshot := by
  have input : (s.rawMoved i level).capture.inputs[i] = s.capture.inputs[i].raw level s.snapshot := Vector.getElem_set_self _
  have due : 100 * (s.rawMoved i level).config.glitch ≤ 0 := by
    rw [show (s.rawMoved i level).config = s.config from rfl, unfiltered]
  rw [State.takeFiltered_of_due (by rw [input, EventInput.raw_candidate_of_none _ filtered away fresh])
    (by rw [input, EventInput.raw_level, filtered]) due, Bool.eq_not_of_ne away]

/-! ## RAW_CHANGE -/

theorem State.exec_rawChange_of_stopped {e : Elapsed} (i : Fin 8) (level : Bool)
    (stopped : (s.elapse e).steer.nodeState.clocked = false) :
    exec (.rawChange e i level) s = .next ((s.elapse e).setEventPin i level) :=
  congrArg Host.Outcome.next (if_neg (by
    rw [State.clocked, show ((s.elapse e).setEventPin i level).steer = (s.elapse e).steer from rfl, stopped, Bool.and_false]
    nofun))

theorem State.exec_rawChange_of_clocked {e : Elapsed} (i : Fin 8) (level : Bool) (clocked : (s.elapse e).clocked = true) :
    exec (.rawChange e i level) s = .next (((s.elapse e).setEventPin i level).rawChange i level) :=
  congrArg Host.Outcome.next (if_pos clocked)

/-- Settles O41: the candidate by the way the line takes, and without a filter the filtered edge that it is. -/
theorem rawChangeFilters : Obligations.RawChangeFilters := by
  intro e i level s u x v
  let w := u.setEventPin i level
  refine ⟨State.exec_rawChange_of_stopped i level, fun free clocked filters early l filtered => ?filter,
    fun free clocked unfiltered fresh l filtered => ?edge⟩
  case filter =>
    exact ⟨x.raw level w.snapshot, (State.exec_rawChange_of_clocked i level (State.clocked_of free clocked)).trans
      (congrArg _ (State.rawChange_of_early (s := w) level filters early)), x.raw_level _ level,
      fun back => congrArg EventInput.candidate (EventInput.raw_of_return _ filtered back),
      EventInput.raw_candidate_of_held _ filtered, EventInput.raw_candidate_of_none _ filtered⟩
  case edge =>
    have taken : exec (.rawChange e i level) s = .next ((w.rawMoved i level).takeFiltered i) :=
      (State.exec_rawChange_of_clocked i level (State.clocked_of free clocked)).trans
        (congrArg _ (State.rawChange_of_unfiltered (s := w) level unfiltered fresh))
    refine ⟨fun back => ?back, fun away => ?away⟩
    case back =>
      rw [taken, State.rawMoved_of_return (s := w) filtered back fresh, State.takeFiltered_of_fresh (s := w) fresh]
      rfl
    case away =>
      intro set a qualifies captured
      let m := w.rawMoved i level
      have qualified : m.edgeQualifies i level = true ↔ qualifies := m.edgeQualifies_iff i level
      have stored : m.edgeCaptured i level = true ↔ captured :=
        (m.edgeCaptured_iff i level).trans (and_congr_left' qualified)
      have disarms {g : GroupId} (qual : qualifies) (member : set.group = some g) :=
        State.filteredEdge_disarms w.snapshot (qualified.mpr qual) member
      exact ⟨m.filteredEdge i level w.snapshot,
        taken.trans (congrArg _ (State.takeFiltered_rawMoved (s := w) unfiltered filtered away fresh)),
        m.filteredEdge_frame i _ _, (m.filteredEdge_inputs i _ _).trans (Vector.set_set ..), disarms, disarms,
        fun plain => State.filteredEdge_passes _ (mt stored.mp plain),
        fun capt room => State.filteredEdge_stores _ (stored.mpr capt) room,
        fun capt full => State.filteredEdge_discards _ (stored.mpr capt) full⟩

end Sys2Proof.Machine
end

section
/-! SUPPORT. The lock of the configuration record (R172 to R174): once the clock runs, no event and no host command changes the
record, and none takes the node back before START. -/

namespace Sys2Proof.Machine

variable {u t : State}

/-- Where the clock runs before, it runs after, under the same record (R172). -/
def State.KeepsLock (s t : State) : Prop :=
  s.steer.nodeState.clocked = true → t.port.record = s.port.record ∧ t.steer.nodeState.clocked = true

theorem State.KeepsLock.refl (s : State) : s.KeepsLock s := fun run => ⟨rfl, run⟩

theorem State.KeepsLock.trans {a b c : State} (h : a.KeepsLock b) (h' : b.KeepsLock c) : a.KeepsLock c := by
  intro run
  obtain ⟨record, run'⟩ := h run
  obtain ⟨record', run''⟩ := h' run'
  exact ⟨record'.trans record, run''⟩

/-- An operation that leaves the record and the node state alone. -/
theorem State.KeepsLock.quiet (record : t.port.record = u.port.record) (node : t.steer.nodeState = u.steer.nodeState) :
    u.KeepsLock t := fun run => ⟨record, by rw [node]; exact run⟩

theorem State.elapse_keepsLock (s : State) (e : Elapsed) : s.KeepsLock (s.elapse e) := .quiet (by simp) (by simp)

/-! ## Events -/

theorem State.RefMoved.keepsLock (h : u.RefMoved t) : u.KeepsLock t := by
  obtain ⟨r, x, k, rfl, node, -⟩ := h
  exact .quiet rfl node

theorem State.CaptureMoved.keepsLock (h : u.CaptureMoved t) : u.KeepsLock t := by
  obtain ⟨c, k, rfl, -, -⟩ := h
  exact .quiet rfl rfl

/-- A gate end leaves WARMUP, where the clock does not run, or enters FAULT, where it runs (R19, R22). -/
theorem State.takeGate_keepsLock : u.KeepsLock u.takeGate := by
  rcases u.takeGate_cases with ⟨m, e⟩ | ⟨warm, -⟩ | ⟨-, m, e⟩
  · rw [e]; exact .quiet rfl rfl
  · intro run
    rw [warm] at run; cases run
  · rw [e]; exact fun _ => ⟨by simp, by rw [State.enterFault_steer]; rfl⟩

theorem State.takeFrame_keepsLock (p : PortId) (bytes : List Byte) : u.KeepsLock (u.takeFrame p bytes) := by
  rcases u.takeFrame_cases p bytes with ⟨c, b, k, e⟩ | ⟨c, i, d, b, k, e⟩ | ⟨x, kind, round, e⟩ <;> rw [e]
  · exact .quiet (by simp) (by simp)
  · exact .quiet (by simp) (by simp)
  · obtain ⟨ports, -, e'⟩ := u.acceptCopy_frame p x kind round
    rw [e']; exact .quiet rfl rfl

/-- The decision of a completion is for a running state (R98). -/
theorem State.complete_keepsLock (f : Flight) (run : u.running = true) : u.KeepsLock (u.complete f) := by
  obtain ⟨k, fields, -⟩ := u.complete_fields f
  have port : (u.complete f).port = u.port := by rw [fields, u.issued_frame f run]
  obtain ⟨y, decided, runs, -⟩ := u.decided_cases f run
  obtain ⟨n, w, g, issued⟩ := u.issued_steer f run
  refine fun _ => ⟨by rw [port], NodeState.clocked_of_running ?_⟩
  rw [u.complete_steer f, issued, ← decided]
  exact runs

theorem EventTakes.keepsLock (h : EventTakes u t) : u.KeepsLock t := by
  cases h with
  | stay => exact .refl u
  | gate => exact State.takeGate_keepsLock
  | monitorTop =>
    obtain ⟨m, o, e⟩ := u.takeMonitorTop_cases
    rw [e]; exact .quiet rfl rfl
  | linkDrop port receiving =>
    rcases u.dropLink_cases port receiving with e | ⟨b, -, e⟩ <;> rw [e] <;> exact .quiet rfl rfl
  | linkUp port => rcases u.raiseLink_cases port with e | ⟨-, e⟩ <;> rw [e] <;> exact .quiet rfl rfl
  | straps | transmit | egress | txComplete | anchorExpiry | half | channel | guardExpiry | pin => exact .quiet rfl rfl
  | frame _ port bytes => exact State.takeFrame_keepsLock port bytes
  | close _ tm =>
    obtain ⟨n, r, rd, k, e, -⟩ := u.takeClose_eq tm
    rw [e]; exact .quiet rfl rfl
  | completion run f => exact State.complete_keepsLock f run
  | slewEnd =>
    obtain ⟨tm, r, e⟩ := u.settleSlew_eq
    rw [e]; exact .quiet rfl rfl
  | pulse =>
    rcases u.takePulse_cases with moved | ⟨v, c, moved, e⟩
    · exact moved.keepsLock
    · rw [e]; exact moved.keepsLock.trans (.quiet (by simp) (by simp))
  | miss => exact u.takeMiss_moved.keepsLock
  | top _ tm =>
    obtain ⟨n, w, g, c, o, e⟩ := u.takeTop_cases tm
    rw [e]; exact .quiet rfl rfl
  | raw _ i level =>
    have pinned : u.KeepsLock (u.setEventPin i level) := .quiet rfl rfl
    exact pinned.trans ((u.setEventPin i level).rawChange_moved i level).keepsLock
  | filtered _ i => exact (u.takeFiltered_moved i).keepsLock

theorem Events.keepsLock {held : List HeldEvent} {s v : State} (h : Events held s v) : s.KeepsLock v := by
  induction h with
  | nil s => exact .refl s
  | cons first _ ih => exact ((State.elapse_keepsLock _ _).trans first.keepsLock).trans ih

/-! ## Host commands -/

/-- A record is held and a START accepted in CONFIG only, where the clock does not run (R173, R174). -/
theorem State.KeepsLock.of_config (h : u.steer.nodeState = .config) : u.KeepsLock t := by
  intro run
  rw [h] at run; cases run

theorem HostTakes.keepsLock (h : HostTakes u t) : u.KeepsLock t := by
  cases h with
  | stay => exact .refl u
  | answer | status | restart | clear => exact .quiet rfl rfl
  | capture =>
    unfold State.readFifo
    split <;> exact .quiet rfl rfl
  | load _ record =>
    rcases u.loadRecord_cases record with e | ⟨code, data, e⟩ | ⟨config, -⟩
    · rw [e]; exact .quiet rfl rfl
    · rw [e]; exact .quiet rfl rfl
    · exact .of_config config
  | anchorTime _ seconds utcOffset flags =>
    rcases u.takeAnchorTime_cases seconds utcOffset flags with ⟨code, e⟩ | e <;> rw [e] <;> exact .quiet rfl rfl

theorem ReportTakes.keepsLock (h : ReportTakes u t) : u.KeepsLock t := by
  cases h with
  | stay => exact .refl u
  | unknown | malformed => exact .quiet rfl rfl

theorem State.startNode_keepsLock (s : State) : s.KeepsLock s.startNode := by
  rcases s.startNode_cases with ⟨code, e⟩ | ⟨config, -⟩
  · rw [e]; exact .quiet rfl rfl
  · exact .of_config config

/-! ## Commands and steps -/

/-- No command but a reset changes the record or takes the node back before START, once the clock runs. -/
theorem exec_keepsLock {c : Instr} {s t : State} (hc : isReset c = false) (h : exec c s = .next t) : s.KeepsLock t := by
  by_cases hs : ∃ e, c = .start e
  · obtain ⟨e, rfl⟩ := hs
    simp only [exec, execStart, Host.Outcome.next.injEq] at h
    rw [← h]
    refine (s.elapse_keepsLock e).trans ?_
    split
    · exact .refl _
    · exact State.startNode_keepsLock _
  · obtain ⟨v, t', hv, ht, htakes⟩ := exec_takes c s hc fun e he => hs ⟨e, he⟩
    rw [ht] at h
    cases h
    refine (hv.keepsLock.trans (v.elapse_keepsLock c.elapsed)).trans ?_
    rcases htakes with hr | ⟨-, hh | he⟩
    · exact hr.keepsLock
    · exact hh.keepsLock
    · exact he.keepsLock

/-- Settles O57: along the cases of the commands; LOAD_CONFIG and START act in CONFIG only, and a gate end leaves WARMUP or
enters FAULT. -/
theorem recordIsLocked : Obligations.RecordIsLocked := by
  refine ⟨fun c s t run hc h => exec_keepsLock hc h run, fun s t run hreset hstep => ?_⟩
  unfold step at hstep
  split at hstep
  · cases hstep
    exact s.elapse_keepsLock (idleElapsed s.idleCount) run
  · next c rest hp => exact exec_keepsLock (s := s.setPending rest) (hreset c rest hp) hstep run

end Sys2Proof.Machine
end

section
/-! SUPPORT. The reports of malformed transactions (R169), and host commands read back from their bytes (R168, Table 10-2). -/

namespace Sys2Proof.Machine

/-! ## Malformed transactions (R169) -/

/-- The report of a malformed transaction is made on the state that its held back events and its own time leave. -/
theorem reportAfter_of_taken {w : Window} {s v : State} (taken : EventsTaken w.held s v) (report : State → State)
    (free : v.pins.resetAsserted = false) :
    reportAfter w true s report = .next (report (v.elapse w.rest)) := by
  have free' : (v.elapse w.rest).held = false := by rw [v.elapse_held w.rest]; exact free
  rw [reportAfter, takeHeld_of_taken taken]
  simp [free']

/-- Settles O50: the held back events can all be taken, and the report follows on the state they leave. -/
theorem malformedTransactionsReport : Obligations.MalformedTransactionsReport := by
  intro w s
  obtain ⟨v, taken⟩ := exists_eventsTaken w.held s
  refine ⟨v, taken, fun free => ⟨fun code unknown => ?_, fun sent incomplete => ⟨?_, ?_⟩⟩⟩
  · simp only [exec, execUnknownCommand, unknown, Option.isNone_none, reportAfter_of_taken taken _ free]
    rfl
  · simp only [exec, execTransactionCutShort, incomplete, reportAfter_of_taken taken _ free]
    rfl
  · simp only [exec, execArgumentWindowOverrun, incomplete, reportAfter_of_taken taken _ free]
    rfl

end Sys2Proof.Machine

namespace Sys2Proof

open Machine

/-! ## Transactions read back (R168, Table 10-2) -/

variable {w : Window} {code : Byte} {args : List Byte}

/-- A code with all its arguments is decoded by its code. -/
theorem decodeTransaction_of_complete {n : Nat} (known : argumentLength code = some n) (complete : n ≤ args.length) :
    decodeTransaction w (code :: args) = decodeCommand w code args := by
  simp [decodeTransaction, transactionIncomplete, known, complete]

/-- A code outside Table 10-2 makes an UNKNOWN_COMMAND (R169). -/
theorem decodeCommand_of_unknown (unknown : argumentLength code = none) :
    decodeCommand w code args = .unknownCommand w code := by
  unfold decodeCommand
  simp only
  split
  case h_11 => rfl
  all_goals next known => simp [argumentLength, known] at unknown

theorem decodeTransaction_of_unknown (unknown : argumentLength code = none) :
    decodeTransaction w (code :: args) = .unknownCommand w code := by
  simp [decodeTransaction, transactionIncomplete, unknown, decodeCommand_of_unknown]

/-- Whole bytes that fall short of a command make a TRANSACTION_CUT_SHORT (R169). -/
theorem decodeTransaction_of_incomplete {sent : List Byte} (incomplete : transactionIncomplete sent = true) :
    decodeTransaction w sent = .transactionCutShort w sent := by
  cases sent with
  | nil => rfl
  | cons code rest => rw [decodeTransaction, if_pos incomplete]

/-- Settles O53: by the command; its code has the arguments that Table 10-2 gives it, and each stands at its place. -/
theorem transactionRoundTrip : Obligations.TransactionRoundTrip := by
  intro i bytes wellFormed encoded
  cases i with
  | readTime | readStatus | readRound | readCapture | start | restart =>
    cases encoded
    exact decodeTransaction_of_complete rfl le_rfl
  | readPeer e id =>
    cases encoded
    exact decodeTransaction_of_complete (n := 1) rfl le_rfl
  | loadConfig e record =>
    cases encoded
    have length : record.length = 86 := of_decide_eq_true wellFormed
    rw [decodeTransaction_of_complete (n := 86) rfl length.ge]
    show Instr.loadConfig e (record.take 86) = _
    rw [← length, List.take_length]
  | clear e conditions slots =>
    cases encoded
    have first : word4 (bytes4 conditions ++ bytes2 slots) 0 = conditions := word4_bytes4 conditions _
    have second : word2 (bytes4 conditions ++ bytes2 slots) 4 = slots := word2_bytes2 slots []
    refine (decodeTransaction_of_complete (n := 6) rfl le_rfl).trans ?_
    show Instr.clear e (word4 (bytes4 conditions ++ bytes2 slots) 0) (word2 (bytes4 conditions ++ bytes2 slots) 4) = _
    rw [first, second]
  | anchorTime e seconds utcOffset flags =>
    cases encoded
    have first : word5 (bytes5 seconds ++ bytes2 utcOffset ++ [flags]) 0 = seconds :=
      word5_bytes5 seconds (bytes2 utcOffset ++ [flags])
    have second : word2 (bytes5 seconds ++ bytes2 utcOffset ++ [flags]) 5 = utcOffset := word2_bytes2 utcOffset [flags]
    refine (decodeTransaction_of_complete (n := 8) rfl le_rfl).trans ?_
    show Instr.anchorTime e (word5 (bytes5 seconds ++ bytes2 utcOffset ++ [flags]) 0)
      (word2 (bytes5 seconds ++ bytes2 utcOffset ++ [flags]) 5) flags = _
    rw [first, second]
  | unknownCommand w code =>
    cases encoded
    exact decodeTransaction_of_unknown (Option.isNone_iff_eq_none.mp wellFormed)
  | transactionCutShort w sent =>
    cases encoded
    exact decodeTransaction_of_incomplete wellFormed
  | _ => cases encoded

end Sys2Proof
end

section
/-! SUPPORT. LOAD_CONFIG as its statement sees it: the judgement of the 86 bytes, and the lamps that a new record leaves dark
(R144, R173). -/

namespace Sys2Proof.Machine

variable {l : List Byte}

/-! ## The judgement (R173) -/

/-- The refusal names the lowest-numbered offending byte. -/
theorem refusalOffset_eq_some {i : Nat} (inside : i < 86) (bad : offends l i = true)
    (first : ∀ j, j < i → offends l j = false) : refusalOffset l = some i := by
  rw [refusalOffset, List.find?_range_eq_some]
  exact ⟨bad, List.mem_range.mpr inside, fun j hj => by rw [first j hj]; rfl⟩

theorem refusalOffset_eq_none (good : ∀ i, i < 86 → offends l i = false) : refusalOffset l = none := by
  rw [refusalOffset, List.find?_range_eq_none]
  exact fun i hi => by rw [good i hi]; rfl

/-- Fourteen fields are counted. -/
theorem clampCount_le (l : List Byte) : clampCount l ≤ 14 := List.length_filter_le _ (clampPairs l)

/-- A channel under a new record keeps all but, where it becomes a lamp, its light (R144). -/
theorem State.holdRecord_channel (u : State) (l : List Byte) (k : Fin 4) :
    (u.holdRecord l).outs.channels[k] =
      if (ConfigRecord.ofBytes l).outs[k].mode = .lamp ∧ u.config.outs[k].mode ≠ .lamp
      then { u.outs.channels[k] with dark := true } else u.outs.channels[k] :=
  vmapIdx_get _ u.outs.channels k.val k.isLt

/-! ## LOAD_CONFIG -/

theorem State.exec_loadConfig {s : State} {e : Elapsed} (free : (s.elapse e).pins.resetAsserted = false) :
    exec (.loadConfig e l) s = .next ((s.elapse e).loadRecord l) :=
  congrArg Host.Outcome.next (if_neg (by rw [State.held, free]; nofun))

variable {u : State}

theorem State.loadRecord_of_other (whole : l.length = 86) (other : u.steer.nodeState ≠ .config) :
    u.loadRecord l = u.respond 87 .refuseState [] := by
  rw [State.loadRecord, if_neg (by omega), if_neg other]

theorem State.loadRecord_of_config (whole : l.length = 86) (config : u.steer.nodeState = .config) :
    u.loadRecord l = u.judgeRecord l := by
  rw [State.loadRecord, if_neg (by omega), if_pos config, ← whole, List.take_length]

/-- Settles O45: the node state, then the lowest offending byte, decide; a record without one is held. -/
theorem loadConfigJudges : Obligations.LoadConfigJudges := by
  intro e l s u zeros free whole
  rw [State.exec_loadConfig free]
  refine ⟨fun other => ?_, fun config i inside bad first => ?_, fun config good => ?_⟩
  · rw [State.loadRecord_of_other whole other]
    rfl
  · rw [State.loadRecord_of_config whole config, State.judgeRecord, refusalOffset_eq_some inside bad first]
    rfl
  · rw [State.loadRecord_of_config whole config, State.judgeRecord, refusalOffset_eq_none good]
    exact ⟨(u.holdRecord l).outs, rfl, clampCount_le l, rfl, u.holdRecord_channel l⟩

end Sys2Proof.Machine
end

section
/-! SUPPORT. The lines that the part drives, as their statement sees them: ALERT by the unmasked flags (R166), EVENT (R161), and
the level of an output in each mode (R131, R143, R144, R147, R153). -/

namespace Sys2Proof.Machine

variable {s : State}

/-! ## ALERT and EVENT (R161, R166) -/

/-- A flag is unmasked where no record is held, or the one held does not mask it (R165). -/
theorem State.unmasked_iff (s : State) (i : Nat) :
    s.config.masks.getLsbD i = false ↔ ∀ c, s.port.record = some c → c.masks.getLsbD i = false := by
  rw [State.config]
  cases s.port.record with
  | none => simp [ConfigRecord.builtIn]
  | some c => simp

/-- A word has a bit set outside a mask just where what the mask leaves of it is not 0. -/
theorem unmaskedBits_ne_zero_iff (flags masks : BitVec 16) :
    flags &&& ~~~masks ≠ 0#16 ↔ ∃ i, i < 16 ∧ flags.getLsbD i = true ∧ masks.getLsbD i = false := by
  rw [← not_iff_not, not_not]
  constructor
  · rintro none ⟨i, hi, flag, unmasked⟩
    have bit : (flags &&& ~~~masks).getLsbD i = false := by rw [none, BitVec.getLsbD_zero]
    rw [BitVec.getLsbD_and, BitVec.getLsbD_not, flag, unmasked, decide_eq_true hi] at bit
    cases bit
  · intro none
    refine BitVec.eq_of_getLsbD_eq fun i hi => ?_
    cases flag : flags.getLsbD i
    · simp [flag]
    · cases unmasked : masks.getLsbD i
      · exact absurd ⟨i, hi, flag, unmasked⟩ none
      · simp [unmasked]

theorem State.alert_iff (free : s.held = false) : s.alert = true ↔ s.cond.fault = true ∨
    ∃ i, i < 16 ∧ s.cond.flags.getLsbD i = true ∧ ∀ c, s.port.record = some c → c.masks.getLsbD i = false := by
  simp only [State.alert, free, Bool.not_false, Bool.true_and, Bool.or_eq_true, decide_eq_true_eq, unmaskedBits_ne_zero_iff,
    s.unmasked_iff]
  exact or_comm

theorem State.eventLine_iff (s : State) : s.eventLine = true ↔ s.capture.fifo ≠ [] := by
  simp [State.eventLine]

/-! ## Lamps (R143, R144) -/

/-- An envelope of 2^j Hz is high for the first half of its period (R143). -/
theorem envelopesHigh_iff (set : BitVec 4) (position second : Nat) : envelopesHigh set position second = true ↔
    ∀ j, j < 4 → set.getLsbD j = true → position % (second / 2 ^ j) < second / 2 / 2 ^ j := by
  have listed : [(0, 1), (1, 2), (2, 4), (3, 8)] = (List.range 4).map fun j => (j, 2 ^ j) := rfl
  rw [envelopesHigh, listed, List.all_map, List.all_eq_true]
  refine forall_congr' fun j => imp_congr List.mem_range ?_
  simp only [Function.comp]
  cases set.getLsbD j <;> simp

/-- The lamps are timed by the clock from START on, and by the monitor second before and in FAULT (R144). -/
theorem State.lampLevel_iff (s : State) : s.lampLevel = true ↔ ∀ j, j < 4 → s.outs.lampLatch.getLsbD j = true →
    if s.outs.clockTiming then s.clock.reading.fraction % (4000000000 / 2 ^ j) < 2000000000 / 2 ^ j
    else s.monitor.phase % (1000000 / 2 ^ j) < 500000 / 2 ^ j := by
  rw [State.lampLevel]
  cases s.outs.clockTiming
  · exact envelopesHigh_iff _ _ _
  · exact envelopesHigh_iff _ _ _

/-! ## Outputs by mode (R131) -/

section Mode

variable {k : Fin 4} (free : s.held = false)
include free

theorem State.outLevel_of_off (mode : (s.outSetting k).mode = .off) : s.outLevel k = false := by
  simp [State.outLevel, free, mode]

theorem State.outLevel_of_pulse (mode : (s.outSetting k).mode = .pulse) : s.outLevel k = s.outs.channels[k].high := by
  simp [State.outLevel, free, mode]

theorem State.outLevel_of_train (mode : (s.outSetting k).mode = .train) : s.outLevel k = s.outs.channels[k].high := by
  simp [State.outLevel, free, mode]

theorem State.outLevel_of_lamp (mode : (s.outSetting k).mode = .lamp) :
    s.outLevel k = true ↔ s.outs.channels[k].dark = false ∧ s.lampLevel = true := by
  simp [State.outLevel, free, mode]

theorem State.outLevel_of_code (mode : (s.outSetting k).mode = .code) : s.outLevel k = s.codeLevel s.outs.channels[k] := by
  simp [State.outLevel, free, mode]

end Mode

/-! ## The time code line (R147, R153) -/

/-- A running code line is high as the current frame has it. -/
theorem State.codeLevel_of_running {c : Channel} (run : c.phase = .running) :
    s.codeLevel c = true ↔ ∃ f, s.code.current = some f ∧ f.highAt s.clock.reading = true := by
  rw [State.codeLevel, run]
  cases s.code.current <;> simp

/-- A line that does not run ends its last high. -/
theorem State.codeLevel_of_muted {c : Channel} (mute : c.phase ≠ .running) :
    s.codeLevel c = true ↔ ∃ g, c.tail = some g ∧ s.clock.reading.reached g = false := by
  unfold State.codeLevel
  split
  · next run => exact absurd run mute
  · cases c.tail <;> simp

/-! ## The statement -/

/-- Settles O51: ALERT by its flags, EVENT by the FIFO, and each output by its mode. -/
theorem alertFollowsFlags : Obligations.AlertFollowsFlags := by
  intro s
  refine ⟨fun held => ⟨State.alert_of_held held, State.outLevel_of_held held⟩, fun free => State.alert_iff free,
    s.eventLine_iff, fun free k => ?_⟩
  intro c now
  cases mode : s.config.outs[k].mode with
  | off => exact State.outLevel_of_off free mode
  | pulse => exact State.outLevel_of_pulse free mode
  | train => exact State.outLevel_of_train free mode
  | lamp => exact (State.outLevel_of_lamp free mode).trans (and_congr_right' s.lampLevel_iff)
  | code =>
    simp only [State.outLevel_of_code free mode]
    refine ⟨fun run => ?_, State.codeLevel_of_muted⟩
    refine (State.codeLevel_of_running run).trans (exists_congr fun f => and_congr_right' ((f.highAt_iff now).trans ?_))
    rw [CodeFrame.highTimeAt]
    cases f.symbols.getD (now.fraction / slotQns) .zero <;> exact Iff.rfl

end Sys2Proof.Machine
end

section
/-! SUPPORT. The configuration record read from its bytes: its numbers and bit fields, and the clamped fields (R172, R173, Table
10-4). -/

namespace Sys2Proof.Machine

/-! ## Numbers in a record -/

/-- The number in byte `i` of a record. -/
def num1 (l : List Byte) (i : Nat) : Nat := (byteAt l i).toNat

/-- The number in two bytes from `i` on, most significant first. -/
def num2 (l : List Byte) (i : Nat) : Nat := 256 * num1 l i + num1 l (i + 1)

/-- The number in four bytes from `i` on, most significant first. -/
def num4 (l : List Byte) (i : Nat) : Nat := 65536 * num2 l i + num2 l (i + 2)

variable (l : List Byte) (i : Nat)

theorem num1_lt : num1 l i < 256 := (byteAt l i).isLt

theorem num2_lt : num2 l i < 65536 := by
  have := num1_lt l i
  have := num1_lt l (i + 1)
  unfold num2
  omega

/-- Two words put together spell their numbers one after the other. -/
theorem append_eq_ofNat {m n a b : Nat} {x : BitVec m} {y : BitVec n} (hx : x = BitVec.ofNat m a) (hy : y = BitVec.ofNat n b)
    (ha : a < 2 ^ m) (hb : b < 2 ^ n) : x ++ y = BitVec.ofNat (m + n) (2 ^ n * a + b) := by
  have fits : 2 ^ n * a + b < 2 ^ (m + n) := by
    rw [pow_add]
    nlinarith
  refine BitVec.eq_of_toNat_eq ?_
  rw [BitVec.toNat_append, BitVec.toNat_ofNat, hx, hy, BitVec.toNat_ofNat, BitVec.toNat_ofNat, Nat.mod_eq_of_lt ha,
    Nat.mod_eq_of_lt hb, Nat.mod_eq_of_lt fits, Nat.shiftLeft_eq, mul_comm, Nat.two_pow_add_eq_or_of_lt hb]

theorem byteAt_eq_ofNat : byteAt l i = BitVec.ofNat 8 (num1 l i) := by
  rw [num1, BitVec.ofNat_toNat, BitVec.setWidth_eq]

theorem word2_eq_ofNat : word2 l i = BitVec.ofNat 16 (num2 l i) :=
  append_eq_ofNat (byteAt_eq_ofNat l i) (byteAt_eq_ofNat l (i + 1)) (num1_lt l i) (num1_lt l (i + 1))

theorem word4_eq_append : word4 l i = word2 l i ++ word2 l (i + 2) := BitVec.append_assoc ..

theorem word4_eq_ofNat : word4 l i = BitVec.ofNat 32 (num4 l i) :=
  (word4_eq_append l i).trans
    (append_eq_ofNat (word2_eq_ofNat l i) (word2_eq_ofNat l (i + 2)) (num2_lt l i) (num2_lt l (i + 2)))

theorem num4_lt : num4 l i < 4294967296 := by
  have := num2_lt l i
  have := num2_lt l (i + 2)
  unfold num4
  omega

/-- The bits of a byte from `s` on. -/
theorem bits_eq_ofNat (s n : Nat) : (byteAt l i).extractLsb' s n = BitVec.ofNat n (num1 l i / 2 ^ s) :=
  congrArg (BitVec.ofNat n) (Nat.shiftRight_eq_div_pow _ _)

theorem bits_toNat (s n : Nat) : ((byteAt l i).extractLsb' s n).toNat = num1 l i / 2 ^ s % 2 ^ n := by
  rw [bits_eq_ofNat, BitVec.toNat_ofNat]

/-- The bits of a byte from `s` on, the others cut off. -/
theorem bits_eq_ofNat_mod (s n : Nat) : (byteAt l i).extractLsb' s n = BitVec.ofNat n (num1 l i / 2 ^ s % 2 ^ n) := by
  rw [← bits_toNat, BitVec.ofNat_toNat, BitVec.setWidth_eq]

theorem bitAt_eq_decide (s : Nat) : bitAt (byteAt l i) s = decide (num1 l i / 2 ^ s % 2 = 1) :=
  Nat.testBit_eq_decide_div_mod_eq

/-- The upper part of a byte is all that the division leaves. -/
theorem num1_div_mod {s n : Nat} (h : s + n = 8) : num1 l i / 2 ^ s % 2 ^ n = num1 l i / 2 ^ s := by
  refine Nat.mod_eq_of_lt (Nat.div_lt_of_lt_mul ?_)
  rw [← pow_add, h]
  exact num1_lt l i

/-- The upper bits of a byte as a number. -/
theorem upper_toNat {s n : Nat} (h : s + n = 8) : ((byteAt l i).extractLsb' s n).toNat = num1 l i / 2 ^ s :=
  (bits_toNat l i s n).trans (num1_div_mod l i h)

/-- The lower bits of a byte as a number. -/
theorem lower_toNat (n : Nat) : ((byteAt l i).extractLsb' 0 n).toNat = num1 l i % 2 ^ n := by
  rw [bits_toNat, pow_zero, Nat.div_one]

theorem lower_eq_ofNat (n : Nat) : (byteAt l i).extractLsb' 0 n = BitVec.ofNat n (num1 l i % 2 ^ n) := by
  rw [bits_eq_ofNat_mod, pow_zero, Nat.div_one]

variable {l i}

theorem bytesAt_succ (n : Nat) (h : i < l.length) : bytesAt l i (n + 1) = byteAt l i :: bytesAt l (i + 1) n := by
  rw [bytesAt, List.drop_eq_getElem_cons h, List.take_succ_cons, byteAt, List.getD_eq_getElem _ _ h]
  rfl

theorem numberAt_one (h : i + 1 ≤ l.length) : numberAt l i 1 = num1 l i := by
  rw [numberAt, bytesAt_succ 0 h, bytesAt, List.take_zero]
  exact Nat.zero_add _

theorem numberAt_two (h : i + 2 ≤ l.length) : numberAt l i 2 = num2 l i := by
  rw [numberAt, bytesAt_succ 1 (by omega), bytesAt_succ 0 (by omega), bytesAt, List.take_zero]
  simp only [beNat, List.foldl_cons, List.foldl_nil, num2, num1]
  omega

theorem numberAt_four (h : i + 4 ≤ l.length) : numberAt l i 4 = num4 l i := by
  rw [numberAt, bytesAt_succ 3 (by omega), bytesAt_succ 2 (by omega), bytesAt_succ 1 (by omega), bytesAt_succ 0 (by omega),
    bytesAt, List.take_zero]
  simp only [beNat, List.foldl_cons, List.foldl_nil, num4, num2, num1, Nat.add_assoc, Nat.reduceAdd]
  omega

/-! ## Clamped fields (R173) -/

theorem clampIn_eq {low high : Nat} (h : low ≤ high) (x : Nat) : clampIn low high x = max low (min high x) := by
  unfold clampIn
  split_ifs <;> omega

theorem clampIn_zero (high x : Nat) : clampIn 0 high x = min high x := (clampIn_eq (Nat.zero_le high) x).trans (Nat.zero_max _)

/-- Whether a value lies outside its range. -/
def outOf (low high x : Nat) : Bool := decide (x < low) || decide (high < x)

/-- A clamp changes just the values outside the range. -/
theorem ne_clampIn (low high x : Nat) : (x != clampIn low high x) = outOf low high x := by
  rw [Bool.eq_iff_iff, bne_iff_ne, outOf, Bool.or_eq_true, decide_eq_true_eq, decide_eq_true_eq]
  unfold clampIn
  split_ifs <;> omega

/-- The fourteen counted fields, each with the ends of its range and its value as loaded (Table 10-4). -/
def countedFields (l : List Byte) : List (Nat × Nat × Nat) :=
  [ (4, 16, num1 l 9), (0, 5, num1 l 10), (0, 12, num1 l 12 / 16), (0, 12, num1 l 12 % 16), (1, 1000000, num4 l 14),
    (clampIn 1 1000000 (num4 l 14), 4194304, num4 l 18), (0, 4194304, num4 l 22), (0, 4194304, num4 l 26),
    (0, 4194304, num4 l 30), (10, 1000, num2 l 34), (1, 500, num2 l 64), (1, 500, num2 l 68), (1, 500, num2 l 72),
    (1, 500, num2 l 76) ]

theorem clampPairs_eq (whole : l.length = 86) :
    clampPairs l = (countedFields l).map fun f => (f.2.2, clampIn f.1 f.2.1 f.2.2) := by
  have one {i : Nat} (h : i + 1 ≤ 86) : numberAt l i 1 = num1 l i := numberAt_one (by omega)
  have two {i : Nat} (h : i + 2 ≤ 86) : numberAt l i 2 = num2 l i := numberAt_two (by omega)
  have four {i : Nat} (h : i + 4 ≤ 86) : numberAt l i 4 = num4 l i := numberAt_four (by omega)
  have upper : ((byteAt l 12).extractLsb' 4 4).toNat = num1 l 12 / 16 := upper_toNat l 12 rfl
  have lower : ((byteAt l 12).extractLsb' 0 4).toNat = num1 l 12 % 16 := lower_toNat l 12 4
  simp [clampPairs, clampedSlewLimit, rawSlewLimit, one, two, four, upper, lower, countedFields]

theorem clampedField_eq (whole : l.length = 86) {k low high x : Nat} (field : (countedFields l)[k]? = some (low, high, x)) :
    clampedField l k = clampIn low high x := by
  rw [clampedField, clampPairs_eq whole, List.getD_eq_getElem?_getD, List.getElem?_map, field]
  rfl

theorem clampCount_eq (whole : l.length = 86) :
    clampCount l = ((countedFields l).map fun f => outOf f.1 f.2.1 f.2.2).count true := by
  rw [clampCount, clampPairs_eq whole, ← List.countP_eq_length_filter, List.countP_map, List.count, List.countP_map]
  refine List.countP_congr fun f _ => ?_
  simp only [Function.comp, ne_clampIn, beq_true]

end Sys2Proof.Machine
end

section
/-! SUPPORT. The bytes that hold an offending field (R173), and what every accepted record keeps (R172, R173, Table 10-4). -/

namespace Sys2Proof.Machine

variable (l : List Byte)

/-! ## Outputs and event inputs (Tables 7-1 and 10-4, R155) -/

/-- The modes by their codes (Table 7-1). -/
theorem OutMode.ofCode_getD (n : Nat) :
    (OutMode.ofCode n).getD .off = [OutMode.off, .pulse, .train, .lamp, .code].getD n .off := by
  rcases n with _ | _ | _ | _ | _ | n <;> rfl

theorem OutMode.ofCode_eq_train (n : Nat) : (OutMode.ofCode n).getD .off = .train ↔ n = 2 := by
  rcases n with _ | _ | _ | _ | _ | n <;> simp [OutMode.ofCode]

theorem OutMode.ofCode_eq_pulse (n : Nat) : (OutMode.ofCode n).getD .off = .pulse ↔ n = 1 := by
  rcases n with _ | _ | _ | _ | _ | n <;> simp [OutMode.ofCode]

theorem modeCode_eq (k : Nat) : modeCode l k = num1 l (62 + 4 * k) / 32 := upper_toNat l _ rfl

theorem modeOf_eq (k : Nat) :
    modeOf l k = [OutMode.off, .pulse, .train, .lamp, .code].getD (num1 l (62 + 4 * k) / 32) .off := by
  rw [modeOf, modeCode_eq, OutMode.ofCode_getD]

theorem modeOf_eq_train (k : Nat) : modeOf l k = .train ↔ num1 l (62 + 4 * k) / 32 = 2 := by
  rw [modeOf, modeCode_eq, OutMode.ofCode_eq_train]

theorem modeOf_eq_pulse (k : Nat) : modeOf l k = .pulse ↔ num1 l (62 + 4 * k) / 32 = 1 := by
  rw [modeOf, modeCode_eq, OutMode.ofCode_eq_pulse]

theorem pairingOf_iff (k : Nat) : pairingOf l k = true ↔ (k = 0 ∨ k = 2) ∧ num1 l (62 + 4 * k) / 16 % 2 = 1 := by
  simp [pairingOf, bitAt_eq_decide]

theorem edgeCode_eq (i : Nat) : ((byteAt l (78 + i)).extractLsb' 2 2).toNat = num1 l (78 + i) / 4 % 4 := bits_toNat l _ 2 2

theorem edgeOf_eq (i : Nat) :
    edgeOf l i = [EdgeSetting.none, .rise, .fall, .both].getD (num1 l (78 + i) / 4 % 4) .none := by
  rw [edgeOf, edgeCode_eq]
  have bound : num1 l (78 + i) / 4 % 4 < 4 := Nat.mod_lt _ (by decide)
  generalize num1 l (78 + i) / 4 % 4 = n at bound
  interval_cases n <;> rfl

theorem edgeOf_eq_both (i : Nat) : edgeOf l i = .both ↔ num1 l (78 + i) / 4 % 4 = 3 := by
  rw [edgeOf_eq]
  have bound : num1 l (78 + i) / 4 % 4 < 4 := Nat.mod_lt _ (by decide)
  generalize num1 l (78 + i) / 4 % 4 = n at bound
  interval_cases n <;> simp

theorem groupCode_eq (i : Nat) : groupCode l i = num1 l (78 + i) % 4 := lower_toNat l _ 2

theorem groupOf_eq (i : Nat) :
    groupOf l i = [Option.none, some GroupId.g0, some .g1].getD (num1 l (78 + i) % 4) Option.none := by
  rw [groupOf, groupCode_eq]
  have bound : num1 l (78 + i) % 4 < 4 := Nat.mod_lt _ (by decide)
  generalize num1 l (78 + i) % 4 = n at bound
  interval_cases n <;> rfl

theorem groupCode_ne_zero_of_groupOf {i : Nat} (member : groupOf l i ≠ none) : num1 l (78 + i) % 4 ≠ 0 := by
  rw [groupOf_eq] at member
  exact fun zero => member (by rw [zero]; rfl)

/-! ## Offending bytes (R173) -/

theorem roundCodeOf_toNat : (roundCodeOf l).toNat = num1 l 11 / 64 := upper_toNat l 11 rfl

theorem closeCodeOf_toNat : (closeCodeOf l).toNat = num1 l 11 / 16 % 4 := bits_toNat l 11 4 2

/-- The close delay offends beyond T_r/16. -/
theorem offends_close : offends l 11 = true ↔ 125 * 2 ^ (num1 l 11 / 64) < 16 * 2 ^ (num1 l 11 / 16 % 4) := by
  rw [offends, if_pos rfl, decide_eq_true_eq, roundCodeOf_toNat, closeCodeOf_toNat]

/-- An output offends by its mode code, or by a pairing flag that its mode or its marker's does not allow. -/
theorem offends_output {k : Nat} (inside : k < 4) : offends l (62 + 4 * k) = true ↔ 4 < num1 l (62 + 4 * k) / 32 ∨
    ((k = 0 ∨ k = 2) ∧ num1 l (62 + 4 * k) / 16 % 2 = 1 ∧
      (num1 l (62 + 4 * k) / 32 ≠ 2 ∨ num1 l (62 + 4 * (k + 1)) / 32 ≠ 1)) := by
  have place : (62 + 4 * k - 62) / 4 = k := by omega
  rw [offends, if_neg (by omega), if_pos (by omega)]
  simp only [place, Bool.or_eq_true, Bool.and_eq_true, decide_eq_true_eq, ne_eq, modeCode_eq, pairingOf_iff, modeOf_eq_train,
    modeOf_eq_pulse, and_assoc]

/-- An event input offends by its group code, or by edge BOTH in a group. -/
theorem offends_input {k : Nat} (inside : k < 8) : offends l (78 + k) = true ↔
    num1 l (78 + k) % 4 = 3 ∨ (num1 l (78 + k) % 4 ≠ 0 ∧ num1 l (78 + k) / 4 % 4 = 3) := by
  have place : 78 + k - 78 = k := by omega
  rw [offends, if_neg (by omega), if_neg (by omega), if_pos (by omega)]
  simp only [place, Bool.or_eq_true, Bool.and_eq_true, decide_eq_true_eq, ne_eq, groupCode_eq, edgeOf_eq_both]

/-- No other byte is judged. -/
theorem place_of_offends {i : Nat} (bad : offends l i = true) :
    i = 11 ∨ (∃ k, k < 4 ∧ i = 62 + 4 * k) ∨ ∃ k, k < 8 ∧ i = 78 + k := by
  unfold offends at bad
  split_ifs at bad with close output input
  · exact .inl close
  · exact .inr (.inl ⟨(i - 62) / 4, by omega, by omega⟩)
  · exact .inr (.inr ⟨i - 78, by omega, by omega⟩)

theorem offends_iff (i : Nat) : offends l i = true ↔
    (i = 11 ∧ 125 * 2 ^ (num1 l 11 / 64) < 16 * 2 ^ (num1 l 11 / 16 % 4)) ∨
    (∃ k, k < 4 ∧ i = 62 + 4 * k ∧ (4 < num1 l (62 + 4 * k) / 32 ∨
      ((k = 0 ∨ k = 2) ∧ num1 l i / 16 % 2 = 1 ∧ (num1 l (62 + 4 * k) / 32 ≠ 2 ∨ num1 l (62 + 4 * (k + 1)) / 32 ≠ 1)))) ∨
    (∃ k, k < 8 ∧ i = 78 + k ∧ (num1 l i % 4 = 3 ∨ (num1 l i % 4 ≠ 0 ∧ num1 l i / 4 % 4 = 3))) := by
  constructor
  · intro bad
    rcases place_of_offends l bad with rfl | ⟨k, inside, rfl⟩ | ⟨k, inside, rfl⟩
    · exact .inl ⟨rfl, (offends_close l).mp bad⟩
    · exact .inr (.inl ⟨k, inside, rfl, (offends_output l inside).mp bad⟩)
    · exact .inr (.inr ⟨k, inside, rfl, (offends_input l inside).mp bad⟩)
  · rintro (⟨rfl, close⟩ | ⟨k, inside, rfl, output⟩ | ⟨k, inside, rfl, input⟩)
    · exact (offends_close l).mpr close
    · exact (offends_output l inside).mpr output
    · exact (offends_input l inside).mpr input

/-! ## Accepted records (R172, R173) -/

section Accepted

variable {l} (good : ∀ i, i < 86 → offends l i = false)
include good

/-- The close delay is at most T_r/16. -/
theorem ConfigRecord.closeQns_le_of_good : 16 * (ConfigRecord.ofBytes l).closeQns ≤ (ConfigRecord.ofBytes l).roundQns := by
  have bound : ¬125 * 2 ^ (roundCodeOf l).toNat < 16 * 2 ^ (closeCodeOf l).toNat := by
    have close := (offends_close l).not.mp (Bool.eq_false_iff.mp (good 11 (by decide)))
    rwa [roundCodeOf_toNat, closeCodeOf_toNat]
  show 16 * (2 ^ (closeCodeOf l).toNat * Config.qnsPerMs) ≤ 125 * 2 ^ (roundCodeOf l).toNat * Config.qnsPerMs
  rw [← mul_assoc]
  exact Nat.mul_le_mul_right _ (not_lt.mp bound)

/-- A paired train stands in TRAIN mode, with its marker in PULSE mode. -/
theorem modes_of_pairing {k : Nat} (inside : k < 4) (paired : pairingOf l k = true) :
    modeOf l k = .train ∧ modeOf l (k + 1) = .pulse := by
  obtain ⟨train, flag⟩ := (pairingOf_iff l k).mp paired
  have output := (offends_output l inside).not.mp (Bool.eq_false_iff.mp (good _ (by omega)))
  rw [modeOf_eq_train, modeOf_eq_pulse]
  by_contra other
  exact output (.inr ⟨train, flag, not_and_or.mp other⟩)

/-- No member of a group has edge BOTH. -/
theorem edge_ne_both_of_member {k : Nat} (inside : k < 8) (member : groupOf l k ≠ none) : edgeOf l k ≠ .both := by
  have input := (offends_input l inside).not.mp (Bool.eq_false_iff.mp (good _ (by omega)))
  rw [ne_eq, edgeOf_eq_both]
  exact fun both => input (.inr ⟨groupCode_ne_zero_of_groupOf l member, both⟩)

end Accepted

end Sys2Proof.Machine
end

section
/-! SUPPORT. The record that 86 bytes make, field by field, and the ranges it keeps (R172, R173, Table 10-4). -/

namespace Sys2Proof.Machine

variable {l : List Byte}

/-! ## Plain fields -/

theorem ConfigRecord.ofBytes_group : (ConfigRecord.ofBytes l).group = BitVec.ofNat 48 (65536 * num4 l 0 + num2 l 4) :=
  append_eq_ofNat (word4_eq_ofNat l 0) (word2_eq_ofNat l 4) (num4_lt l 0) (num2_lt l 4)

theorem ConfigRecord.ofBytes_roundCode : (ConfigRecord.ofBytes l).roundCode = BitVec.ofNat 2 (num1 l 11 / 64) :=
  bits_eq_ofNat l 11 6 2

theorem ConfigRecord.ofBytes_closeCode : (ConfigRecord.ofBytes l).closeCode = BitVec.ofNat 2 (num1 l 11 / 16 % 4) :=
  bits_eq_ofNat_mod l 11 4 2

theorem ConfigRecord.ofBytes_refEnable : (ConfigRecord.ofBytes l).refEnable = decide (num1 l 11 / 8 % 2 = 1) :=
  bitAt_eq_decide l 11 3

theorem ConfigRecord.ofBytes_anchorClass : (ConfigRecord.ofBytes l).anchorClass = BitVec.ofNat 3 (num1 l 11 % 8) :=
  lower_eq_ofNat l 11 3

theorem ConfigRecord.ofBytes_glitch : (ConfigRecord.ofBytes l).glitch = num1 l 13 % 16 := lower_toNat l 13 4

/-- Two node states share a byte of the lamp table, the first of them in its upper half. -/
theorem ConfigRecord.ofBytes_lamp (j : Fin 8) : (ConfigRecord.ofBytes l).lamp[j] =
    BitVec.ofNat 4 (if j.val % 2 = 0 then num1 l (58 + j / 2) / 16 else num1 l (58 + j / 2) % 16) := by
  refine (vtable_get _ j.val j.isLt).trans ?_
  split
  · exact bits_eq_ofNat l _ 4 4
  · exact lower_eq_ofNat l _ 4

/-! ## Clamped fields -/

section Whole

variable (whole : l.length = 86)
include whole

theorem ConfigRecord.ofBytes_nodes : (ConfigRecord.ofBytes l).nodes = max 4 (min 16 (num1 l 9)) :=
  (clampedField_eq whole rfl).trans (clampIn_eq (by decide) _)

theorem ConfigRecord.ofBytes_tolerance : (ConfigRecord.ofBytes l).tolerance = min 5 (num1 l 10) :=
  (clampedField_eq whole rfl).trans (clampIn_zero _ _)

theorem ConfigRecord.ofBytes_trackGain : (ConfigRecord.ofBytes l).trackGain = min 12 (num1 l 12 / 16) :=
  (clampedField_eq whole rfl).trans (clampIn_zero _ _)

theorem ConfigRecord.ofBytes_acquireGain : (ConfigRecord.ofBytes l).acquireGain = min 12 (num1 l 12 % 16) :=
  (clampedField_eq whole rfl).trans (clampIn_zero _ _)

theorem ConfigRecord.ofBytes_slewLimit_clampIn : (ConfigRecord.ofBytes l).slewLimit = clampIn 1 1000000 (num4 l 14) :=
  clampedField_eq whole rfl

theorem ConfigRecord.ofBytes_slewLimit : (ConfigRecord.ofBytes l).slewLimit = max 1 (min 1000000 (num4 l 14)) :=
  (ConfigRecord.ofBytes_slewLimit_clampIn whole).trans (clampIn_eq (by decide) _)

/-- The step threshold is clamped against the clamped slew limit. -/
theorem ConfigRecord.ofBytes_stepThreshold :
    (ConfigRecord.ofBytes l).stepThreshold = max (ConfigRecord.ofBytes l).slewLimit (min 4194304 (num4 l 18)) := by
  have limit : (ConfigRecord.ofBytes l).slewLimit ≤ 4194304 := by
    rw [ConfigRecord.ofBytes_slewLimit whole]
    omega
  have clamped : (ConfigRecord.ofBytes l).stepThreshold = clampIn (clampIn 1 1000000 (num4 l 14)) 4194304 (num4 l 18) :=
    clampedField_eq whole rfl
  rw [clamped, ← ConfigRecord.ofBytes_slewLimit_clampIn whole, clampIn_eq limit]

theorem ConfigRecord.ofBytes_band : (ConfigRecord.ofBytes l).band = min 4194304 (num4 l 22) :=
  (clampedField_eq whole rfl).trans (clampIn_zero _ _)

theorem ConfigRecord.ofBytes_splitBound : (ConfigRecord.ofBytes l).splitBound = min 4194304 (num4 l 26) :=
  (clampedField_eq whole rfl).trans (clampIn_zero _ _)

theorem ConfigRecord.ofBytes_portSkew : (ConfigRecord.ofBytes l).portSkew = min 4194304 (num4 l 30) :=
  (clampedField_eq whole rfl).trans (clampIn_zero _ _)

theorem ConfigRecord.ofBytes_maxDelay : (ConfigRecord.ofBytes l).maxDelay = max 10 (min 1000 (num2 l 34)) :=
  (clampedField_eq whole rfl).trans (clampIn_eq (by decide) _)

theorem ConfigRecord.ofBytes_congestion : (ConfigRecord.ofBytes l).congestion = num2 l 36 := numberAt_two (by omega)

theorem ConfigRecord.ofBytes_growth : (ConfigRecord.ofBytes l).growth = num2 l 38 := numberAt_two (by omega)

theorem clampedWidth_eq (k : Fin 4) : clampedField l (10 + k) = max 1 (min 500 (num2 l (64 + 4 * k))) := by
  have field : (countedFields l)[10 + k.val]? = some (1, 500, num2 l (64 + 4 * k)) := by
    match k with
    | 0 | 1 | 2 | 3 => rfl
  rw [clampedField_eq whole field, clampIn_eq (by decide)]

end Whole

/-! ## Outputs and event inputs -/

theorem ConfigRecord.ofBytes_out (k : Fin 4) : (ConfigRecord.ofBytes l).outs[k] =
    { mode := modeOf l k, pairing := pairingOf l k, floor := ((byteAt l (62 + 4 * k)).extractLsb' 0 4).toNat
      rate := (byteAt l (63 + 4 * k)).extractLsb' 0 4, width := clampedField l (10 + k) } :=
  vtable_get _ k.val k.isLt

theorem ConfigRecord.ofBytes_input (i : Fin 8) :
    (ConfigRecord.ofBytes l).inputs[i] = { edge := edgeOf l i, group := groupOf l i } :=
  vtable_get _ i.val i.isLt

theorem pairingOf_eq (k : Fin 4) :
    pairingOf l k = (decide (k = 0 ∨ k = 2) && decide (num1 l (62 + 4 * k) / 16 % 2 = 1)) := by
  have place : (k.val = 0 ∨ k.val = 2) ↔ (k = 0 ∨ k = 2) := by simp only [Fin.ext_iff]; rfl
  rw [Bool.eq_iff_iff, pairingOf_iff, Bool.and_eq_true, decide_eq_true_eq, decide_eq_true_eq, place]

/-- The settings of an output from its bytes (Table 7-1). -/
theorem ConfigRecord.ofBytes_outSetting (whole : l.length = 86) (k : Fin 4) : let o := (ConfigRecord.ofBytes l).outs[k]
    o.mode = [OutMode.off, .pulse, .train, .lamp, .code].getD (num1 l (62 + 4 * k) / 32) .off ∧
    o.pairing = (decide (k = 0 ∨ k = 2) && decide (num1 l (62 + 4 * k) / 16 % 2 = 1)) ∧
    o.floor = num1 l (62 + 4 * k) % 16 ∧ o.rate = BitVec.ofNat 4 (num1 l (63 + 4 * k) % 16) ∧
    o.width = max 1 (min 500 (num2 l (64 + 4 * k))) := by
  rw [ConfigRecord.ofBytes_out]
  exact ⟨modeOf_eq l k, pairingOf_eq k, lower_toNat l _ 4, lower_eq_ofNat l _ 4, clampedWidth_eq whole k⟩

/-- The settings of an event input from its byte (R155). -/
theorem ConfigRecord.ofBytes_evSetting (i : Fin 8) : let x := (ConfigRecord.ofBytes l).inputs[i]
    x.edge = [EdgeSetting.none, .rise, .fall, .both].getD (num1 l (78 + i) / 4 % 4) .none ∧
    x.group = [Option.none, some GroupId.g0, some .g1].getD (num1 l (78 + i) % 4) Option.none := by
  rw [ConfigRecord.ofBytes_input]
  exact ⟨edgeOf_eq l i, groupOf_eq l i⟩

/-! ## Ranges (Table 10-4) -/

/-- The clamped fields lie within their ranges. -/
structure ConfigRecord.Ranged (c : ConfigRecord) : Prop where
  nodes : 4 ≤ c.nodes ∧ c.nodes ≤ 16
  tolerance : c.tolerance ≤ 5
  trackGain : c.trackGain ≤ 12
  acquireGain : c.acquireGain ≤ 12
  glitch : c.glitch ≤ 15
  slewLimit : 1 ≤ c.slewLimit ∧ c.slewLimit ≤ 1000000
  stepThreshold : c.slewLimit ≤ c.stepThreshold ∧ c.stepThreshold ≤ 4194304
  band : c.band ≤ 4194304
  splitBound : c.splitBound ≤ 4194304
  portSkew : c.portSkew ≤ 4194304
  maxDelay : 10 ≤ c.maxDelay ∧ c.maxDelay ≤ 1000
  outs : ∀ k : Fin 4, 1 ≤ c.outs[k].width ∧ c.outs[k].width ≤ 500 ∧ c.outs[k].floor ≤ 15

theorem ConfigRecord.ofBytes_ranged (whole : l.length = 86) : (ConfigRecord.ofBytes l).Ranged where
  nodes := by rw [ofBytes_nodes whole]; omega
  tolerance := by rw [ofBytes_tolerance whole]; omega
  trackGain := by rw [ofBytes_trackGain whole]; omega
  acquireGain := by rw [ofBytes_acquireGain whole]; omega
  glitch := by rw [ofBytes_glitch]; omega
  slewLimit := by rw [ofBytes_slewLimit whole]; omega
  stepThreshold := by rw [ofBytes_stepThreshold whole, ofBytes_slewLimit whole]; omega
  band := by rw [ofBytes_band whole]; omega
  splitBound := by rw [ofBytes_splitBound whole]; omega
  portSkew := by rw [ofBytes_portSkew whole]; omega
  maxDelay := by rw [ofBytes_maxDelay whole]; omega
  outs k := by
    obtain ⟨-, -, floor, -, width⟩ := ofBytes_outSetting whole k
    rw [floor, width]
    omega

/-! ## Rules between fields (R173) -/

theorem ConfigRecord.modes_of_pairing (good : ∀ i, i < 86 → offends l i = false) {train marker : Fin 4}
    (next : marker.val = train.val + 1) (paired : (ConfigRecord.ofBytes l).outs[train].pairing = true) :
    (ConfigRecord.ofBytes l).outs[train].mode = .train ∧ (ConfigRecord.ofBytes l).outs[marker].mode = .pulse := by
  rw [ConfigRecord.ofBytes_out] at paired
  rw [ConfigRecord.ofBytes_out, ConfigRecord.ofBytes_out, next]
  exact Machine.modes_of_pairing good train.isLt paired

theorem ConfigRecord.edge_ne_both (good : ∀ i, i < 86 → offends l i = false) (i : Fin 8)
    (member : (ConfigRecord.ofBytes l).inputs[i].group ≠ none) : (ConfigRecord.ofBytes l).inputs[i].edge ≠ .both := by
  rw [ConfigRecord.ofBytes_input] at member ⊢
  exact edge_ne_both_of_member good i.isLt member

/-! ## The statement -/

/-- Settles O46: the fields from their bytes, the clamp count, the offending bytes, and the ranges that follow from both. -/
theorem acceptedRecordIsInRange : Obligations.AcceptedRecordIsInRange := by
  intro l whole r b b2 b4 clamp outside mode
  refine ⟨⟨ConfigRecord.ofBytes_group, word2_eq_ofNat l 6, byteAt_eq_ofNat l 8, ConfigRecord.ofBytes_nodes whole,
    ConfigRecord.ofBytes_tolerance whole, ConfigRecord.ofBytes_roundCode, ConfigRecord.ofBytes_closeCode,
    ConfigRecord.ofBytes_refEnable, ConfigRecord.ofBytes_anchorClass, ConfigRecord.ofBytes_trackGain whole,
    ConfigRecord.ofBytes_acquireGain whole, ConfigRecord.ofBytes_glitch, ConfigRecord.ofBytes_slewLimit whole,
    ConfigRecord.ofBytes_stepThreshold whole, ConfigRecord.ofBytes_band whole, ConfigRecord.ofBytes_splitBound whole,
    ConfigRecord.ofBytes_portSkew whole, ConfigRecord.ofBytes_maxDelay whole, ConfigRecord.ofBytes_congestion whole,
    ConfigRecord.ofBytes_growth whole, word4_eq_ofNat l 40, word4_eq_ofNat l 44, word4_eq_ofNat l 48, word4_eq_ofNat l 52,
    word2_eq_ofNat l 56, ConfigRecord.ofBytes_lamp, ConfigRecord.ofBytes_outSetting whole, ConfigRecord.ofBytes_evSetting⟩,
    ?count, offends_iff l, fun good => ?ranges⟩
  case count =>
    rw [clampCount_eq whole, countedFields, ← ConfigRecord.ofBytes_slewLimit_clampIn whole]
    rfl
  case ranges =>
    obtain ⟨⟨nodes, nodes'⟩, tolerance, trackGain, acquireGain, glitch, ⟨slewLimit, slewLimit'⟩, ⟨threshold, threshold'⟩, band,
      splitBound, portSkew, ⟨maxDelay, maxDelay'⟩, outs⟩ := ConfigRecord.ofBytes_ranged whole
    exact ⟨nodes, nodes', tolerance, trackGain, acquireGain, glitch, slewLimit, slewLimit', threshold, threshold', band,
      splitBound, portSkew, maxDelay, maxDelay', ConfigRecord.closeQns_le_of_good good, outs,
      ConfigRecord.modes_of_pairing good (train := 0) (marker := 1) rfl,
      ConfigRecord.modes_of_pairing good (train := 2) (marker := 3) rfl, ConfigRecord.edge_ne_both good⟩

end Sys2Proof.Machine
end

section
/-! SUPPORT. The step itself: the front of the queue is taken, and an idle step raises the events that are due, each once, in
order (R7, R18, R119, R144, R156, log entry 2). -/

namespace Sys2Proof.Machine

variable (s : State)

/-! ## The front of the queue -/

theorem step_of_cons {c : Instr} {rest : List Instr} (h : s.pending = c :: rest) : step s = exec c (s.setPending rest) := by
  simp only [step, h]

theorem step_of_nil (h : s.pending = []) : step s = .next s.idle := by simp only [step, h]

/-- Settles O1. -/
theorem stepRunsFrontCommand : Obligations.StepRunsFrontCommand := fun _ _ s h => step_of_cons s h

/-! ## The idle step -/

theorem idleElapsed_le (k : Nat) : (idleElapsed k).main ≤ 1 ∧ (idleElapsed k).monitor ≤ 1 := by
  constructor <;> (simp only [idleElapsed]; split <;> decide)

/-- What is raised does not depend on the idle count. -/
theorem State.idle_eq : s.idle = { s.elapse (idleElapsed s.idleCount) with
    pending := s.pending ++ (s.elapse (idleElapsed s.idleCount)).raised, idleCount := s.idleCount + 1 } := by
  rw [← s.elapse_pending (idleElapsed s.idleCount)]
  rfl

/-! ## The events raised -/

/-- The events of the monitor that are due (R18, R144). -/
def State.monitorRaised (s : State) : List Instr :=
  (if s.gateDue then [.gateEnd Elapsed.none] else []) ++ if s.monitor.topDue then [.monitorTop Elapsed.none] else []

/-- The instants of the clock that are due, in the order in which they were reached (R7, R119). -/
def State.instantsRaised (s : State) : List Instr := (sortDue s.dueInstants).map (·.2)

/-- The filtered edges that are due, in the order of their raw changes (R156). -/
def State.edgesRaised (s : State) : List Instr := (sortDue ((List.finRange 8).flatMap s.dueEdge)).map (·.2)

theorem State.raised_of_held (h : s.held = true) : s.raised = [] := if_pos h

theorem State.raised_of_free (free : s.held = false) :
    s.raised = s.monitorRaised ++ if s.clocked then s.instantsRaised ++ s.edgesRaised else [] := by
  rw [State.instantsRaised, State.edgesRaised, ← List.map_append]
  exact if_neg (by simp [free])

theorem State.mem_monitorRaised (free : s.held = false) (i : Instr) : i ∈ s.monitorRaised ↔
    (i = .gateEnd Elapsed.none ∧ 1024 ≤ s.monitor.gatePosition) ∨ (i = .monitorTop Elapsed.none ∧ s.monitor.topDue = true) := by
  have gateDue : s.gateDue = true ↔ 1024 ≤ s.monitor.gatePosition := by simp [State.gateDue, free]
  rw [State.monitorRaised, List.mem_append, List.mem_ite_nil_right, List.mem_ite_nil_right, List.mem_singleton,
    List.mem_singleton, gateDue, and_comm, and_comm (a := s.monitor.topDue = true)]

theorem State.mem_instantsRaised (free : s.held = false) (i : Instr) : i ∈ s.instantsRaised ↔
    i.elapsed = Elapsed.none ∧ ∃ a, s.sinceInstant i = some a ∧ 0 ≤ a := by
  simp only [State.instantsRaised, List.mem_map, mem_sortDue, s.mem_dueInstants free]
  constructor
  · rintro ⟨⟨a, i⟩, ⟨timeless, past, since⟩, rfl⟩
    exact ⟨timeless, a, since, past⟩
  · rintro ⟨timeless, a, since, past⟩
    exact ⟨(a, i), ⟨timeless, past, since⟩, rfl⟩

theorem State.mem_edgesRaised (i : Instr) : i ∈ s.edgesRaised ↔
    ∃ k c, i = .filteredEdge Elapsed.none k ∧ s.capture.inputs[k].candidate = some c ∧ s.config.filterCycles ≤ c.held := by
  simp only [State.edgesRaised, List.mem_map, mem_sortDue, s.mem_dueEdges]
  constructor
  · rintro ⟨_, ⟨k, c, rfl, candidate, long⟩, rfl⟩
    exact ⟨k, c, rfl, candidate, long⟩
  · rintro ⟨k, c, rfl, candidate, long⟩
    exact ⟨_, ⟨k, c, rfl, candidate, long⟩, rfl⟩

/-- The raised events in the words of the statement: each carries no time, and is due. -/
theorem State.mem_raised_iff (free : s.pins.resetAsserted = false) (i : Instr) :
    i ∈ s.raised ↔ i.elapsed = { main := 0, monitor := 0 } ∧
      ((∃ d, i = .gateEnd d ∧ 1024 ≤ s.monitor.gatePosition) ∨ (∃ d, i = .monitorTop d ∧ s.monitor.topDue = true) ∨
        (s.steer.nodeState.clocked = true ∧ ((∃ a, s.sinceInstant i = some a ∧ 0 ≤ a) ∨
          ∃ d k c, i = .filteredEdge d k ∧ s.capture.inputs[k].candidate = some c ∧ 100 * s.config.glitch ≤ c.held))) := by
  have clocked : s.clocked = s.steer.nodeState.clocked := by simp [State.clocked, State.held, free]
  rw [s.raised_of_free free, List.mem_append, s.mem_monitorRaised free, List.mem_ite_nil_right, List.mem_append,
    s.mem_instantsRaised free, s.mem_edgesRaised, clocked]
  constructor
  · rintro ((⟨rfl, long⟩ | ⟨rfl, due⟩) | ⟨run, ⟨timeless, since⟩ | ⟨k, c, rfl, candidate, long⟩⟩)
    · exact ⟨rfl, .inl ⟨_, rfl, long⟩⟩
    · exact ⟨rfl, .inr (.inl ⟨_, rfl, due⟩)⟩
    · exact ⟨timeless, .inr (.inr ⟨run, .inl since⟩)⟩
    · exact ⟨rfl, .inr (.inr ⟨run, .inr ⟨_, k, c, rfl, candidate, long⟩⟩)⟩
  · rintro ⟨timeless, ⟨d, rfl, long⟩ | ⟨d, rfl, due⟩ | ⟨run, since | ⟨d, k, c, rfl, candidate, long⟩⟩⟩
    · exact .inl (.inl ⟨congrArg Instr.gateEnd timeless, long⟩)
    · exact .inl (.inr ⟨congrArg Instr.monitorTop timeless, due⟩)
    · exact .inr ⟨run, .inl ⟨timeless, since⟩⟩
    · exact .inr ⟨run, .inr ⟨k, c, congrArg (Instr.filteredEdge · k) timeless, candidate, long⟩⟩

/-! ## Each event once -/

/-- Every instant event of the clock, in the order in which `State.dueInstants` asks for it. -/
def clockInstants : List Instr :=
  [.slewEnd Elapsed.none, .roundClose Elapsed.none, .transmitInstant Elapsed.none, .topOfSecond Elapsed.none,
    .halfSecond Elapsed.none, .anchorTimeExpiry Elapsed.none, .leapGuardExpiry Elapsed.none] ++
    ((List.finRange 4).map (.pulseEnd Elapsed.none) ++ ((List.finRange 4).map (.trainEdge Elapsed.none) ++
      [.missInstant Elapsed.none]))

/-- Every event that the part can raise itself (log entry 2). -/
def raisable : List Instr :=
  [.gateEnd Elapsed.none, .monitorTop Elapsed.none] ++
    (clockInstants ++ (List.finRange 8).map (.filteredEdge Elapsed.none))

theorem ite_sublist {α : Type} (p : Prop) [Decidable p] (x : α) : (if p then [x] else []).Sublist [x] := by
  split
  · exact .refl _
  · exact List.nil_sublist _

/-- A named reading raises its event at most once. -/
theorem State.due_sublist (t : Option Timestamp) (i : Instr) : ((s.due t i).map (·.2)).Sublist [i] := by
  unfold State.due
  split
  · exact List.nil_sublist _
  · exact (ite_sublist _ _).map _

theorem State.dueMiss_sublist : (s.dueMiss.map (·.2)).Sublist [.missInstant Elapsed.none] := by
  unfold State.dueMiss
  split
  · exact List.nil_sublist _
  · exact (ite_sublist _ _).map _

theorem State.dueEdge_sublist (k : Fin 8) : ((s.dueEdge k).map (·.2)).Sublist [.filteredEdge Elapsed.none k] := by
  unfold State.dueEdge
  split
  · exact List.nil_sublist _
  · exact (ite_sublist _ _).map _

/-- If each index raises at most its own event, all of them together raise at most one event for each index. -/
theorem flatMap_sublist_map {α : Type} (l : List α) {f : α → List (Int × Instr)} {g : α → Instr}
    (h : ∀ k, ((f k).map (·.2)).Sublist [g k]) : ((l.flatMap f).map (·.2)).Sublist (l.map g) := by
  rw [List.map_flatMap, List.map_eq_flatMap]
  exact .flatMap_right l fun k _ => h k

theorem State.dueInstants_sublist : (s.dueInstants.map (·.2)).Sublist clockInstants := by
  simp only [State.dueInstants, List.map_append, List.append_assoc]
  iterate 7 refine (s.due_sublist _ _).append ?_
  exact (flatMap_sublist_map _ fun k => s.due_sublist _ _).append
    ((flatMap_sublist_map _ fun k => s.due_sublist _ _).append s.dueMiss_sublist)

/-- Sorting leaves the events as they were, but for their order. -/
theorem sortDue_subperm {l : List (Int × Instr)} {m : List Instr} (h : (l.map (·.2)).Sublist m) :
    ((sortDue l).map (·.2)).Subperm m := ((sortDue_perm l).map _).subperm.trans h.subperm

theorem State.raised_subperm : s.raised.Subperm raisable := by
  cases held : s.held with
  | true => rw [s.raised_of_held held]; exact List.nil_subperm
  | false =>
    have monitor : s.monitorRaised.Sublist [.gateEnd Elapsed.none, .monitorTop Elapsed.none] :=
      (ite_sublist _ _).append (ite_sublist _ _)
    rw [s.raised_of_free held]
    refine monitor.subperm.append ?_
    split
    · exact (sortDue_subperm s.dueInstants_sublist).append (sortDue_subperm (flatMap_sublist_map _ s.dueEdge_sublist))
    · exact List.nil_subperm

theorem State.raised_nodup : s.raised.Nodup := by
  obtain ⟨l, perm, sublist⟩ := s.raised_subperm
  have distinct : raisable.Nodup := by decide
  exact perm.nodup_iff.mp (distinct.sublist sublist)

/-! ## The order -/

/-- For how many cycles the candidate behind a filtered edge has held (R156); absent for every other event. -/
def State.heldFor (s : State) : Instr → Option Nat
  | .filteredEdge _ k => s.capture.inputs[k].candidate.map (·.held)
  | _ => none

theorem State.heldFor_filteredEdge {k : Fin 8} {c : Candidate} (candidate : s.capture.inputs[k].candidate = some c)
    (e : Elapsed) : s.heldFor (.filteredEdge e k) = some c.held := congrArg (Option.map Candidate.held) candidate

theorem State.sinceInstant_instantsRaised (free : s.held = false) :
    s.instantsRaised.filterMap s.sinceInstant = (sortDue s.dueInstants).map (·.1) := by
  rw [State.instantsRaised, List.filterMap_map, ← List.filterMap_eq_map]
  refine List.filterMap_congr fun p due => ?_
  obtain ⟨-, -, since⟩ := (s.mem_dueInstants free p).mp ((mem_sortDue _ _).mp due)
  exact since

theorem State.sinceInstant_edgesRaised : s.edgesRaised.filterMap s.sinceInstant = [] := by
  rw [List.filterMap_eq_nil_iff]
  intro i due
  obtain ⟨k, c, rfl, -⟩ := (s.mem_edgesRaised i).mp due
  rfl

theorem State.heldFor_instantsRaised (free : s.held = false) : s.instantsRaised.filterMap s.heldFor = [] := by
  rw [List.filterMap_eq_nil_iff]
  intro i due
  obtain ⟨-, a, since, -⟩ := (s.mem_instantsRaised free i).mp due
  cases i with
  | filteredEdge e k => cases since
  | _ => rfl

theorem State.heldFor_edgesRaised : (s.edgesRaised.filterMap s.heldFor).map (Nat.cast : Nat → Int) =
    (sortDue ((List.finRange 8).flatMap s.dueEdge)).map (·.1) := by
  rw [State.edgesRaised, List.filterMap_map, List.map_filterMap, ← List.filterMap_eq_map]
  refine List.filterMap_congr fun p due => ?_
  obtain ⟨k, c, rfl, candidate, -⟩ := (s.mem_dueEdges p).mp ((mem_sortDue _ _).mp due)
  exact congrArg (Option.map Nat.cast) (s.heldFor_filteredEdge candidate _)

/-- What a measure that sees nothing of the monitor's events sees of those raised. -/
theorem State.filterMap_raised {α : Type} (f : Instr → Option α) (free : s.held = false)
    (gate : f (.gateEnd Elapsed.none) = none) (top : f (.monitorTop Elapsed.none) = none) : s.raised.filterMap f =
      if s.clocked then s.instantsRaised.filterMap f ++ s.edgesRaised.filterMap f else [] := by
  have monitor : s.monitorRaised.filterMap f = [] := by
    rw [List.filterMap_eq_nil_iff]
    intro i due
    rcases (s.mem_monitorRaised free i).mp due with ⟨rfl, -⟩ | ⟨rfl, -⟩
    · exact gate
    · exact top
  rw [s.raised_of_free free, List.filterMap_append, monitor, List.nil_append]
  split
  · rw [List.filterMap_append]
  · rfl

theorem sortDue_fst_sorted (l : List (Int × Instr)) : ((sortDue l).map (·.1)).Pairwise fun a b => b ≤ a :=
  List.pairwise_map.mpr (sortDue_sorted l)

/-- Instants are raised in the order in which they were reached (R7). -/
theorem State.raised_instants_ordered :
    s.raised.Pairwise fun i j => ∀ a b, s.sinceInstant i = some a → s.sinceInstant j = some b → b ≤ a := by
  cases held : s.held with
  | true => rw [s.raised_of_held held]; exact .nil
  | false =>
    have sorted : (s.raised.filterMap s.sinceInstant).Pairwise fun a b => b ≤ a := by
      rw [s.filterMap_raised _ held rfl rfl, s.sinceInstant_instantsRaised held, s.sinceInstant_edgesRaised, List.append_nil]
      split
      · exact sortDue_fst_sorted _
      · exact .nil
    exact (List.pairwise_filterMap.mp sorted).imp fun order a b since since' => order a since b since'

/-- Filtered edges are raised in the order of their raw changes (R156). -/
theorem State.raised_edges_ordered :
    s.raised.Pairwise fun i j => ∀ a b, s.heldFor i = some a → s.heldFor j = some b → b ≤ a := by
  cases held : s.held with
  | true => rw [s.raised_of_held held]; exact .nil
  | false =>
    have sorted : (s.raised.filterMap s.heldFor).Pairwise fun a b => b ≤ a := by
      rw [s.filterMap_raised _ held rfl rfl, s.heldFor_instantsRaised held, List.nil_append]
      split
      · have cycles := sortDue_fst_sorted ((List.finRange 8).flatMap s.dueEdge)
        rw [← s.heldFor_edgesRaised, List.pairwise_map] at cycles
        exact cycles.imp Int.ofNat_le.mp
      · exact .nil
    exact (List.pairwise_filterMap.mp sorted).imp fun order a b long long' => order a long b long'

/-! ## The statement -/

/-- Settles O2: the queue after an idle step is what is raised once its cycles have passed. -/
theorem emptyQueueIdles : Obligations.EmptyQueueIdles := by
  intro s empty
  have pending : s.idle.pending = (s.elapse (idleElapsed s.idleCount)).raised := by
    rw [s.idle_eq, empty, List.nil_append]
  obtain ⟨main, monitor⟩ := idleElapsed_le s.idleCount
  refine ⟨idleElapsed s.idleCount, s.idle, step_of_nil s empty, main, monitor, ?frame, ?queue⟩
  case frame => rw [s.idle_eq]
  case queue =>
    rw [pending]
    generalize s.elapse (idleElapsed s.idleCount) = u
    refine ⟨u.raised_of_held, u.mem_raised_iff, u.raised_nodup, u.raised_instants_ordered,
      u.raised_edges_ordered.imp fun order d d' k l x y => ?_⟩
    rintro rfl rfl candidate candidate'
    exact order _ _ (u.heldFor_filteredEdge candidate d) (u.heldFor_filteredEdge candidate' d')

end Sys2Proof.Machine
end

section
/-! SUPPORT. The queue and the idle count are the model's own: every command leaves both alone (log entry 2). -/

namespace Sys2Proof.Machine

variable {u t : State}

/-- The queue and the idle count are as before. -/
def State.SameQueue (s t : State) : Prop := t.pending = s.pending ∧ t.idleCount = s.idleCount

theorem State.SameQueue.refl (s : State) : s.SameQueue s := ⟨rfl, rfl⟩

theorem State.SameQueue.trans {a b c : State} (h : a.SameQueue b) (h' : b.SameQueue c) : a.SameQueue c := by
  obtain ⟨queue, idle⟩ := h
  obtain ⟨queue', idle'⟩ := h'
  exact ⟨queue'.trans queue, idle'.trans idle⟩

theorem State.elapse_sameQueue (s : State) (e : Elapsed) : s.SameQueue (s.elapse e) := ⟨by simp, by simp⟩

/-! ## Events -/

theorem State.RefMoved.sameQueue (h : u.RefMoved t) : u.SameQueue t := by
  obtain ⟨r, x, k, rfl, -, -⟩ := h
  exact ⟨rfl, rfl⟩

theorem State.CaptureMoved.sameQueue (h : u.CaptureMoved t) : u.SameQueue t := by
  obtain ⟨c, k, rfl, -, -⟩ := h
  exact ⟨rfl, rfl⟩

theorem State.takeGate_sameQueue : u.SameQueue u.takeGate := by
  rcases u.takeGate_cases with ⟨m, e⟩ | ⟨-, m, e⟩ | ⟨-, m, e⟩ <;> rw [e]
  · exact ⟨rfl, rfl⟩
  · exact ⟨rfl, rfl⟩
  · exact ⟨by simp, by simp⟩

theorem State.takeFrame_sameQueue (p : PortId) (bytes : List Byte) : u.SameQueue (u.takeFrame p bytes) := by
  rcases u.takeFrame_cases p bytes with ⟨c, b, k, e⟩ | ⟨c, i, d, b, k, e⟩ | ⟨x, kind, round, e⟩ <;> rw [e]
  · exact ⟨by simp, by simp⟩
  · exact ⟨by simp, by simp⟩
  · obtain ⟨ports, -, e'⟩ := u.acceptCopy_frame p x kind round
    rw [e']; exact ⟨rfl, rfl⟩

theorem State.complete_sameQueue (f : Flight) (run : u.running = true) : u.SameQueue (u.complete f) := by
  obtain ⟨cfg, rep, p, rd, k, e, -⟩ := u.complete_frame f
  rw [e, u.issued_frame f run]
  exact ⟨rfl, rfl⟩

theorem EventTakes.sameQueue (h : EventTakes u t) : u.SameQueue t := by
  cases h with
  | stay => exact .refl u
  | straps | transmit | egress | txComplete | anchorExpiry | half | channel | guardExpiry | pin => exact ⟨rfl, rfl⟩
  | gate => exact State.takeGate_sameQueue
  | monitorTop =>
    obtain ⟨m, o, e⟩ := u.takeMonitorTop_cases
    rw [e]; exact ⟨rfl, rfl⟩
  | linkDrop port receiving =>
    rcases u.dropLink_cases port receiving with e | ⟨b, -, e⟩ <;> rw [e] <;> exact ⟨rfl, rfl⟩
  | linkUp port => rcases u.raiseLink_cases port with e | ⟨-, e⟩ <;> rw [e] <;> exact ⟨rfl, rfl⟩
  | frame _ port bytes => exact State.takeFrame_sameQueue port bytes
  | close _ tm =>
    obtain ⟨n, r, rd, k, e, -⟩ := u.takeClose_eq tm
    rw [e]; exact ⟨rfl, rfl⟩
  | completion run f => exact State.complete_sameQueue f run
  | slewEnd =>
    obtain ⟨tm, r, e⟩ := u.settleSlew_eq
    rw [e]; exact ⟨rfl, rfl⟩
  | pulse =>
    rcases u.takePulse_cases with moved | ⟨v, c, moved, e⟩
    · exact moved.sameQueue
    · rw [e]; exact moved.sameQueue.trans ⟨by simp, by simp⟩
  | miss => exact u.takeMiss_moved.sameQueue
  | top _ tm =>
    obtain ⟨n, w, g, c, o, e⟩ := u.takeTop_cases tm
    rw [e]; exact ⟨rfl, rfl⟩
  | raw _ i level =>
    have pinned : u.SameQueue (u.setEventPin i level) := ⟨rfl, rfl⟩
    exact pinned.trans ((u.setEventPin i level).rawChange_moved i level).sameQueue
  | filtered _ i => exact (u.takeFiltered_moved i).sameQueue

theorem Events.sameQueue {held : List HeldEvent} {s v : State} (h : Events held s v) : s.SameQueue v := by
  induction h with
  | nil s => exact .refl s
  | cons first _ ih => exact ((State.elapse_sameQueue _ _).trans first.sameQueue).trans ih

/-! ## Host commands -/

theorem HostTakes.sameQueue (h : HostTakes u t) : u.SameQueue t := by
  cases h with
  | stay => exact .refl u
  | answer | status | restart | clear => exact ⟨rfl, rfl⟩
  | capture =>
    obtain ⟨c, k, p, e, -⟩ := u.readFifo_eq
    rw [e]; exact ⟨rfl, rfl⟩
  | load _ record =>
    rcases u.loadRecord_cases record with e | ⟨code, data, e⟩ | ⟨-, data, e⟩ <;> rw [e] <;> exact ⟨rfl, rfl⟩
  | anchorTime _ seconds utcOffset flags =>
    rcases u.takeAnchorTime_cases seconds utcOffset flags with ⟨code, e⟩ | e <;> rw [e] <;> exact ⟨rfl, rfl⟩

theorem ReportTakes.sameQueue (h : ReportTakes u t) : u.SameQueue t := by
  obtain ⟨k, p, rfl, -⟩ := h.eq
  exact ⟨rfl, rfl⟩

theorem State.startNode_sameQueue (s : State) : s.SameQueue s.startNode := by
  rcases s.startNode_cases with ⟨code, e⟩ | ⟨-, e⟩ <;> rw [e]
  · exact ⟨rfl, rfl⟩
  · exact ⟨s.begin_pending, s.begin_idleCount⟩

/-! ## Resets and commands -/

/-- A reset answers a next state; what it sets is neither the queue nor the idle count (R20, R23). -/
theorem exec_reset_sameQueue {c : Instr} (hc : isReset c = true) (s : State) :
    ∃ t, exec c s = .next t ∧ (s.elapse c.elapsed).SameQueue t := by
  cases c with
  | supplyReset e straps => exact ⟨_, rfl, rfl, rfl⟩
  | resetPinAssert e =>
    refine ⟨_, rfl, ?_⟩
    unfold State.assertPin
    split <;> exact ⟨rfl, rfl⟩
  | resetPinRelease e straps =>
    refine ⟨_, rfl, ?_⟩
    unfold State.releasePin
    split <;> exact ⟨rfl, rfl⟩
  | commandReset e straps =>
    refine ⟨_, rfl, ?_⟩
    unfold State.commandReset
    split <;> exact ⟨rfl, rfl⟩
  | _ => cases hc

theorem exec_start_sameQueue (e : Elapsed) (s : State) : ∃ t, exec (.start e) s = .next t ∧ (s.elapse e).SameQueue t := by
  refine ⟨_, rfl, ?_⟩
  split
  · exact .refl _
  · exact State.startNode_sameQueue _

/-- Settles O3: a reset, START, or a command along its cases. -/
theorem everyCommandKeepsQueue : Obligations.EveryCommandKeepsQueue := by
  intro c s
  cases hc : isReset c with
  | true =>
    obtain ⟨t, next, same⟩ := exec_reset_sameQueue hc s
    exact ⟨t, next, (s.elapse_sameQueue _).trans same⟩
  | false =>
    by_cases start : ∃ e, c = .start e
    · obtain ⟨e, rfl⟩ := start
      obtain ⟨t, next, same⟩ := exec_start_sameQueue e s
      exact ⟨t, next, (s.elapse_sameQueue e).trans same⟩
    · obtain ⟨v, t, events, next, takes⟩ := exec_takes c s hc fun e he => start ⟨e, he⟩
      refine ⟨t, next, (events.sameQueue.trans (v.elapse_sameQueue c.elapsed)).trans ?_⟩
      rcases takes with report | ⟨-, host | event⟩
      · exact report.sameQueue
      · exact host.sameQueue
      · exact event.sameQueue

end Sys2Proof.Machine
end
